-- ==== Sys2Proof/Word.lean ====
section
/-!
DEFINITION. The two word types of the Intel 8080/A (spec R5, R6): an 8-bit byte and a 16-bit word.
Bit 0 is the least significant bit (R6); all arithmetic on them is modulo 2^8 and 2^16 (R7), which is
what `BitVec` arithmetic is.
-/

namespace Sys2Proof

/-- An 8-bit value: a register, a byte of memory, an opcode, an immediate n or a port number (R5, R6). -/
abbrev Byte := BitVec 8

/-- A 16-bit value: a register pair, SP, PC, an immediate nn or an address aa (R5, R6). -/
abbrev Word := BitVec 16

end Sys2Proof
end

