-- ==== Sys2Proof/Syntax.lean ====
section
/-!
DEFINITION. The instructions of the Intel 8080/A as syntax: the operand classes (R12, R84, R85) and ONE
constructor per row of `spec/opcode_table.json`, in the table's order, the twelve undocumented opcode values
(R94) included. Raw register codes do not occur here: they are read in `Sys2Proof/Decode.lean`.
-/

namespace Sys2Proof

/-- The seven 8-bit registers (R20). -/
inductive Reg where
  | b | c | d | e | h | l | a
deriving DecidableEq, Repr

/-- The source's operand class r (R12, R84): a register, or M, the byte of memory at HL (R22). -/
inductive Opd where
  | reg (r : Reg)
  | m
deriving DecidableEq, Repr

/-- The source's operand class rr (R12, R85): the register pairs and SP. -/
inductive Pair where
  | bc | de | hl | sp
deriving DecidableEq, Repr

/-- The eight conditions (R180), in the order of their codes (R86). -/
inductive Cond where
  | nz | z | nc | c | po | pe | p | m
deriving DecidableEq, Repr

/-- The instructions. Each constructor's docstring gives its assembler form and its rule. -/
inductive Instr where
  /-- MOV r1,r2 (R110) -/
  | movRR (dst src : Reg)
  /-- MOV r,M (R111) -/
  | movRM (dst : Reg)
  /-- MOV M,r (R112) -/
  | movMR (src : Reg)
  /-- MVI r,n (R113) -/
  | mviR (dst : Reg) (n : Byte)
  /-- MVI M,n (R114) -/
  | mviM (n : Byte)
  /-- LXI rp,nn (R115) -/
  | lxi (rp : Pair) (nn : Word)
  /-- LDA aa (R116) -/
  | lda (aa : Word)
  /-- STA aa (R117) -/
  | sta (aa : Word)
  /-- LHLD aa (R118) -/
  | lhld (aa : Word)
  /-- SHLD aa (R119) -/
  | shld (aa : Word)
  /-- LDAX B or LDAX D (R120): well formed with BC or DE only -/
  | ldax (rp : Pair)
  /-- STAX B or STAX D (R121): well formed with BC or DE only -/
  | stax (rp : Pair)
  /-- SPHL (R122) -/
  | sphl
  /-- XCHG (R123) -/
  | xchg
  /-- ADD r (R132) -/
  | add (src : Opd)
  /-- ADC r (R134) -/
  | adc (src : Opd)
  /-- SUB r (R136) -/
  | sub (src : Opd)
  /-- SBB r (R138) -/
  | sbb (src : Opd)
  /-- ANA r (R160) -/
  | ana (src : Opd)
  /-- XRA r (R164) -/
  | xra (src : Opd)
  /-- ORA r (R162) -/
  | ora (src : Opd)
  /-- CMP r (R140) -/
  | cmp (src : Opd)
  /-- ADI n (R133) -/
  | adi (n : Byte)
  /-- ACI n (R135) -/
  | aci (n : Byte)
  /-- SUI n (R137) -/
  | sui (n : Byte)
  /-- SBI n (R139) -/
  | sbi (n : Byte)
  /-- ANI n (R161) -/
  | ani (n : Byte)
  /-- XRI n (R165) -/
  | xri (n : Byte)
  /-- ORI n (R163) -/
  | ori (n : Byte)
  /-- CPI n (R141) -/
  | cpi (n : Byte)
  /-- INR r (R142) -/
  | inr (dst : Opd)
  /-- DCR r (R143) -/
  | dcr (dst : Opd)
  /-- INX rp (R144) -/
  | inx (rp : Pair)
  /-- DCX rp (R145) -/
  | dcx (rp : Pair)
  /-- DAD rp (R146) -/
  | dad (rp : Pair)
  /-- DAA (R147) -/
  | daa
  /-- CMA (R166) -/
  | cma
  /-- RLC (R171) -/
  | rlc
  /-- RRC (R172) -/
  | rrc
  /-- RAL (R173) -/
  | ral
  /-- RAR (R174) -/
  | rar
  /-- JMP aa (R182) -/
  | jmp (aa : Word)
  /-- JNZ aa (R183) -/
  | jnz (aa : Word)
  /-- JZ aa (R184) -/
  | jz (aa : Word)
  /-- JNC aa (R185) -/
  | jnc (aa : Word)
  /-- JC aa (R186) -/
  | jc (aa : Word)
  /-- JPO aa (R187) -/
  | jpo (aa : Word)
  /-- JPE aa (R188) -/
  | jpe (aa : Word)
  /-- JP aa (R189) -/
  | jp (aa : Word)
  /-- JM aa (R190) -/
  | jm (aa : Word)
  /-- PCHL (R191) -/
  | pchl
  /-- CALL aa (R192) -/
  | call (aa : Word)
  /-- CNZ aa (R193) -/
  | cnz (aa : Word)
  /-- CZ aa (R194) -/
  | cz (aa : Word)
  /-- CNC aa (R195) -/
  | cnc (aa : Word)
  /-- CC aa (R196) -/
  | cc (aa : Word)
  /-- CPO aa (R197) -/
  | cpo (aa : Word)
  /-- CPE aa (R198) -/
  | cpe (aa : Word)
  /-- CP aa (R199) -/
  | cp (aa : Word)
  /-- CM aa (R200) -/
  | cm (aa : Word)
  /-- RST n (R201): n is the opcode's field nnn, 0 to 7 -/
  | rst (n : BitVec 3)
  /-- RET (R202) -/
  | ret
  /-- RNZ (R203) -/
  | rnz
  /-- RZ (R204) -/
  | rz
  /-- RNC (R205) -/
  | rnc
  /-- RC (R206) -/
  | rc
  /-- RPO (R207) -/
  | rpo
  /-- RPE (R208) -/
  | rpe
  /-- RP (R209) -/
  | rp
  /-- RM (R210) -/
  | rm
  /-- PUSH rp (R227): well formed with BC, DE or HL only -/
  | push (rp : Pair)
  /-- PUSH PSW (R228) -/
  | pushPsw
  /-- POP rp (R229): well formed with BC, DE or HL only -/
  | pop (rp : Pair)
  /-- POP PSW (R230) -/
  | popPsw
  /-- XTHL (R231) -/
  | xthl
  /-- STC (R240) -/
  | stc
  /-- CMC (R241) -/
  | cmc
  /-- IN p (R245) -/
  | inPort (p : Byte)
  /-- OUT p (R246) -/
  | outPort (p : Byte)
  /-- NOP (R250) -/
  | nop
  /-- HLT (R251) -/
  | hlt
  /-- DI (R252) -/
  | di
  /-- EI (R253) -/
  | ei
  /-- opcode 08h, used by no listed instruction (R94); NOP on silicon -/
  | undoc08
  /-- opcode 10h (R94); NOP on silicon -/
  | undoc10
  /-- opcode 18h (R94); NOP on silicon -/
  | undoc18
  /-- opcode 20h (R94, R261); NOP on silicon -/
  | undoc20
  /-- opcode 28h (R94); NOP on silicon -/
  | undoc28
  /-- opcode 30h (R94, R261); NOP on silicon -/
  | undoc30
  /-- opcode 38h (R94); NOP on silicon -/
  | undoc38
  /-- opcode CBh (R94); JMP aa on silicon -/
  | undocCB (aa : Word)
  /-- opcode D9h (R94); RET on silicon -/
  | undocD9
  /-- opcode DDh (R94); CALL aa on silicon -/
  | undocDD (aa : Word)
  /-- opcode EDh (R94); CALL aa on silicon -/
  | undocED (aa : Word)
  /-- opcode FDh (R94); CALL aa on silicon -/
  | undocFD (aa : Word)
deriving DecidableEq, Repr

end Sys2Proof
end

