-- ==== Sys2Proof/WellFormed.lean ====
section
/-!
DEFINITION. Which terms of `Instr` are instructions of the 8080. The operand types already leave out MOV M,M (R112)
and every M where the table has a row of its own; what is left to check is the pairs that an instruction does not
take: LDAX and STAX take BC and DE only (R120, R121, conflict C11), PUSH and POP do not take SP (R227, R229,
conflict C9).
-/

namespace Sys2Proof

/-- The pairs LDAX and STAX take (R120, R121). -/
def Pair.indexes : Pair → Bool
  | .bc => true
  | .de => true
  | .hl => false
  | .sp => false

/-- The pairs PUSH and POP take (R85, R227, R229). -/
def Pair.stacks : Pair → Bool
  | .bc => true
  | .de => true
  | .hl => true
  | .sp => false

/-- The term is an instruction the opcode table has a word for. -/
def Instr.wf : Instr → Bool
  | .ldax q | .stax q => q.indexes
  | .push q | .pop q => q.stacks
  | .movRR _ _ | .movRM _ | .movMR _ | .mviR _ _ | .mviM _ | .lxi _ _ | .lda _ | .sta _ | .lhld _ | .shld _
  | .sphl | .xchg => true
  | .add _ | .adc _ | .sub _ | .sbb _ | .ana _ | .xra _ | .ora _ | .cmp _ => true
  | .adi _ | .aci _ | .sui _ | .sbi _ | .ani _ | .xri _ | .ori _ | .cpi _ => true
  | .inr _ | .dcr _ | .inx _ | .dcx _ | .dad _ | .daa | .cma | .rlc | .rrc | .ral | .rar => true
  | .jmp _ | .jnz _ | .jz _ | .jnc _ | .jc _ | .jpo _ | .jpe _ | .jp _ | .jm _ | .pchl => true
  | .call _ | .cnz _ | .cz _ | .cnc _ | .cc _ | .cpo _ | .cpe _ | .cp _ | .cm _ | .rst _ => true
  | .ret | .rnz | .rz | .rnc | .rc | .rpo | .rpe | .rp | .rm => true
  | .pushPsw | .popPsw | .xthl | .stc | .cmc | .inPort _ | .outPort _ | .nop | .hlt | .di | .ei => true
  | .undoc08 | .undoc10 | .undoc18 | .undoc20 | .undoc28 | .undoc30 | .undoc38 | .undocCB _ | .undocD9
  | .undocDD _ | .undocED _ | .undocFD _ => true

end Sys2Proof
end

