-- ==== Sys2Proof/Decode.lean ====
section
/-!
DEFINITION. Decoding bytes to instructions, and after it the encoder, both from the spec's encoding tables
(`30_encoding.md` R80 to R94). Fields are pulled out here and nowhere else. Decoding depends on nothing but the
bytes (R95) and is total: every value of byte 1 is some row of the opcode table (R90, R93), so the only bytes
refused are too few of them, and those by name.
-/

namespace Sys2Proof

/-! ## Bytes and words -/

/-- `hi ++ lo`: the 16-bit value whose high-order byte is `hi` (R6, R8). -/
def joinBytes (hi lo : Byte) : Word := hi ++ lo

/-- Bits 15:8 of a word (R6). -/
def hiByte (w : Word) : Byte := w.extractLsb' 8 8

/-- Bits 7:0 of a word (R6). -/
def loByte (w : Word) : Byte := w.extractLsb' 0 8

/-! ## Field codes -/

/-- One of two by a 1-bit code. -/
def select2 {α : Type} (k : BitVec 1) (x0 x1 : α) : α := if k.getLsbD 0 then x1 else x0

/-- One of four by a 2-bit code, in the order of the codes. -/
def select4 {α : Type} (k : BitVec 2) (x0 x1 x2 x3 : α) : α :=
  if k.getLsbD 1 then (if k.getLsbD 0 then x3 else x2) else (if k.getLsbD 0 then x1 else x0)

/-- One of eight by a 3-bit code, in the order of the codes. -/
def select8 {α : Type} (k : BitVec 3) (x0 x1 x2 x3 x4 x5 x6 x7 : α) : α :=
  if k.getLsbD 2 then
    (if k.getLsbD 1 then (if k.getLsbD 0 then x7 else x6) else (if k.getLsbD 0 then x5 else x4))
  else
    (if k.getLsbD 1 then (if k.getLsbD 0 then x3 else x2) else (if k.getLsbD 0 then x1 else x0))

/-- The 8-bit operand of a code ddd or sss (R84). -/
def opdOfCode (k : BitVec 3) : Opd :=
  select8 k (.reg .b) (.reg .c) (.reg .d) (.reg .e) (.reg .h) (.reg .l) .m (.reg .a)

/-- The register pair of a code pp, for the instructions whose code 11 is SP (R85). -/
def pairOfCode (k : BitVec 2) : Pair := select4 k .bc .de .hl .sp

/-- The code of a register (R84). -/
def Reg.code : Reg → BitVec 3
  | .b => 0b000#3 | .c => 0b001#3 | .d => 0b010#3 | .e => 0b011#3 | .h => 0b100#3 | .l => 0b101#3 | .a => 0b111#3

/-- The code of an 8-bit operand (R84). -/
def Opd.code : Opd → BitVec 3
  | .reg r => r.code
  | .m => 0b110#3

/-- The code of a register pair (R85). -/
def Pair.code : Pair → BitVec 2
  | .bc => 0b00#2 | .de => 0b01#2 | .hl => 0b10#2 | .sp => 0b11#2

/-! ## Decoding -/

/-- The quadrant 00 of the opcode map (R82, R91): `z` is bits 2:0, `y` bits 5:3, `p` bits 5:4. -/
def decodeQuadrant0 (z y : BitVec 3) (p : BitVec 2) (b2 : Byte) (aa : Word) : Instr :=
  select8 z
    (select8 y .nop .undoc08 .undoc10 .undoc18 .undoc20 .undoc28 .undoc30 .undoc38)
    (select2 (y.extractLsb' 0 1) (.lxi (pairOfCode p) aa) (.dad (pairOfCode p)))
    (select8 y (.stax .bc) (.ldax .bc) (.stax .de) (.ldax .de) (.shld aa) (.lhld aa) (.sta aa) (.lda aa))
    (select2 (y.extractLsb' 0 1) (.inx (pairOfCode p)) (.dcx (pairOfCode p)))
    (.inr (opdOfCode y))
    (.dcr (opdOfCode y))
    (match opdOfCode y with
      | .reg r => .mviR r b2
      | .m => .mviM b2)
    (select8 y .rlc .rrc .ral .rar .daa .cma .stc .cmc)

/-- The quadrant 01 (R82, R91): MOV, with HLT in the place of MOV M,M (R112, R251). -/
def decodeQuadrant1 (z y : BitVec 3) : Instr :=
  match opdOfCode y, opdOfCode z with
  | .reg dst, .reg src => .movRR dst src
  | .reg dst, .m => .movRM dst
  | .m, .reg src => .movMR src
  | .m, .m => .hlt

/-- The quadrant 10 (R87): the ALU operations with an operand r. -/
def decodeQuadrant2 (z y : BitVec 3) : Instr :=
  select8 y (.add (opdOfCode z)) (.adc (opdOfCode z)) (.sub (opdOfCode z)) (.sbb (opdOfCode z))
    (.ana (opdOfCode z)) (.xra (opdOfCode z)) (.ora (opdOfCode z)) (.cmp (opdOfCode z))

/-- The quadrant 11 (R82, R91). -/
def decodeQuadrant3 (z y : BitVec 3) (b2 : Byte) (aa : Word) : Instr :=
  select8 z
    (select8 y .rnz .rz .rnc .rc .rpo .rpe .rp .rm)
    (select8 y (.pop .bc) .ret (.pop .de) .undocD9 (.pop .hl) .pchl .popPsw .sphl)
    (select8 y (.jnz aa) (.jz aa) (.jnc aa) (.jc aa) (.jpo aa) (.jpe aa) (.jp aa) (.jm aa))
    (select8 y (.jmp aa) (.undocCB aa) (.outPort b2) (.inPort b2) .xthl .xchg .di .ei)
    (select8 y (.cnz aa) (.cz aa) (.cnc aa) (.cc aa) (.cpo aa) (.cpe aa) (.cp aa) (.cm aa))
    (select8 y (.push .bc) (.call aa) (.push .de) (.undocDD aa) (.push .hl) (.undocED aa) .pushPsw (.undocFD aa))
    (select8 y (.adi b2) (.aci b2) (.sui b2) (.sbi b2) (.ani b2) (.xri b2) (.ori b2) (.cpi b2))
    (.rst y)

/-- The instruction of byte 1 `op` with the operand bytes `b2` and `b3`, of which it uses as many as its length
says (R80, R88, R93): n and port are byte 2, nn and aa are byte 3 ++ byte 2. -/
def decodeBytes (op b2 b3 : Byte) : Instr :=
  select4 (op.extractLsb' 6 2)
    (decodeQuadrant0 (op.extractLsb' 0 3) (op.extractLsb' 3 3) (op.extractLsb' 4 2) b2 (joinBytes b3 b2))
    (decodeQuadrant1 (op.extractLsb' 0 3) (op.extractLsb' 3 3))
    (decodeQuadrant2 (op.extractLsb' 0 3) (op.extractLsb' 3 3))
    (decodeQuadrant3 (op.extractLsb' 0 3) (op.extractLsb' 3 3) b2 (joinBytes b3 b2))

/-- The length in bytes of the instruction whose byte 1 is `op`, by the patterns of R83. The undocumented CBh, DDh,
EDh and FDh have the length 3 of what they do on silicon (DEDUCED for `UNDOC_OPCODES = refuse`, under which R83 gives
the twelve values no length: log entry 10). -/
def opcodeLength (op : Byte) : Nat :=
  if op &&& 0xCF#8 = 0x01#8 ∨ op &&& 0xE7#8 = 0x22#8 ∨ op &&& 0xC7#8 = 0xC2#8 ∨ op &&& 0xC7#8 = 0xC4#8
      ∨ op = 0xC3#8 ∨ op = 0xCB#8 ∨ op &&& 0xCF#8 = 0xCD#8 then 3
  else if op &&& 0xC7#8 = 0x06#8 ∨ op &&& 0xC7#8 = 0xC6#8 ∨ op = 0xD3#8 ∨ op = 0xDB#8 then 2
  else 1

/-- The twelve opcode values that no listed instruction uses (R94). -/
def isUndocumented (op : Byte) : Bool :=
  decide (op ∈ [0x08#8, 0x10#8, 0x18#8, 0x20#8, 0x28#8, 0x30#8, 0x38#8, 0xCB#8, 0xD9#8, 0xDD#8, 0xED#8, 0xFD#8])

/-- Why bytes are refused. -/
inductive DecodeError where
  /-- There is no byte 1. -/
  | noOpcode
  /-- The instruction of this byte 1 is longer than the bytes given. -/
  | missingOperand (op : Byte)
deriving DecidableEq, Repr

/-- The instruction at the head of `bytes`, and the bytes after it (R80). -/
def decode (bytes : List Byte) : Except DecodeError (Instr × List Byte) :=
  match bytes with
  | [] => .error .noOpcode
  | op :: rest =>
    if opcodeLength op = 1 then .ok (decodeBytes op 0#8 0#8, rest)
    else if opcodeLength op = 2 then
      match rest with
      | b2 :: rest' => .ok (decodeBytes op b2 0#8, rest')
      | [] => .error (.missingOperand op)
    else
      match rest with
      | b2 :: b3 :: rest' => .ok (decodeBytes op b2 b3, rest')
      | [_] => .error (.missingOperand op)
      | [] => .error (.missingOperand op)

/-! ## Encoding -/

/-- Byte 1 of the form `qqyyyzzz` (R82). -/
def opcode233 (q : BitVec 2) (y z : BitVec 3) : Byte := q ++ y ++ z

/-- Byte 1 of the form `qqppzzzz` (R82). -/
def opcode224 (q p : BitVec 2) (z : BitVec 4) : Byte := q ++ p ++ z

/-- The three bytes of an instruction with a 16-bit operand: the low-order byte comes first (R57, R88). -/
def withWord (op : Byte) (w : Word) : List Byte := [op, loByte w, hiByte w]

/-- The bytes of an instruction, first byte at the lowest address, from the patterns of R81 and R91. -/
def encode : Instr → List Byte
  | .movRR dst src => [opcode233 0b01#2 dst.code src.code]
  | .movRM dst => [opcode233 0b01#2 dst.code 0b110#3]
  | .movMR src => [opcode233 0b01#2 0b110#3 src.code]
  | .mviR dst n => [opcode233 0b00#2 dst.code 0b110#3, n]
  | .mviM n => [0x36#8, n]
  | .lxi rp nn => withWord (opcode224 0b00#2 rp.code 0b0001#4) nn
  | .lda aa => withWord 0x3A#8 aa
  | .sta aa => withWord 0x32#8 aa
  | .lhld aa => withWord 0x2A#8 aa
  | .shld aa => withWord 0x22#8 aa
  | .ldax rp => [opcode224 0b00#2 rp.code 0b1010#4]
  | .stax rp => [opcode224 0b00#2 rp.code 0b0010#4]
  | .sphl => [0xF9#8]
  | .xchg => [0xEB#8]
  | .add o => [opcode233 0b10#2 0b000#3 o.code]
  | .adc o => [opcode233 0b10#2 0b001#3 o.code]
  | .sub o => [opcode233 0b10#2 0b010#3 o.code]
  | .sbb o => [opcode233 0b10#2 0b011#3 o.code]
  | .ana o => [opcode233 0b10#2 0b100#3 o.code]
  | .xra o => [opcode233 0b10#2 0b101#3 o.code]
  | .ora o => [opcode233 0b10#2 0b110#3 o.code]
  | .cmp o => [opcode233 0b10#2 0b111#3 o.code]
  | .adi n => [0xC6#8, n]
  | .aci n => [0xCE#8, n]
  | .sui n => [0xD6#8, n]
  | .sbi n => [0xDE#8, n]
  | .ani n => [0xE6#8, n]
  | .xri n => [0xEE#8, n]
  | .ori n => [0xF6#8, n]
  | .cpi n => [0xFE#8, n]
  | .inr o => [opcode233 0b00#2 o.code 0b100#3]
  | .dcr o => [opcode233 0b00#2 o.code 0b101#3]
  | .inx rp => [opcode224 0b00#2 rp.code 0b0011#4]
  | .dcx rp => [opcode224 0b00#2 rp.code 0b1011#4]
  | .dad rp => [opcode224 0b00#2 rp.code 0b1001#4]
  | .daa => [0x27#8]
  | .cma => [0x2F#8]
  | .rlc => [0x07#8]
  | .rrc => [0x0F#8]
  | .ral => [0x17#8]
  | .rar => [0x1F#8]
  | .jmp aa => withWord 0xC3#8 aa
  | .jnz aa => withWord 0xC2#8 aa
  | .jz aa => withWord 0xCA#8 aa
  | .jnc aa => withWord 0xD2#8 aa
  | .jc aa => withWord 0xDA#8 aa
  | .jpo aa => withWord 0xE2#8 aa
  | .jpe aa => withWord 0xEA#8 aa
  | .jp aa => withWord 0xF2#8 aa
  | .jm aa => withWord 0xFA#8 aa
  | .pchl => [0xE9#8]
  | .call aa => withWord 0xCD#8 aa
  | .cnz aa => withWord 0xC4#8 aa
  | .cz aa => withWord 0xCC#8 aa
  | .cnc aa => withWord 0xD4#8 aa
  | .cc aa => withWord 0xDC#8 aa
  | .cpo aa => withWord 0xE4#8 aa
  | .cpe aa => withWord 0xEC#8 aa
  | .cp aa => withWord 0xF4#8 aa
  | .cm aa => withWord 0xFC#8 aa
  | .rst n => [opcode233 0b11#2 n 0b111#3]
  | .ret => [0xC9#8]
  | .rnz => [0xC0#8]
  | .rz => [0xC8#8]
  | .rnc => [0xD0#8]
  | .rc => [0xD8#8]
  | .rpo => [0xE0#8]
  | .rpe => [0xE8#8]
  | .rp => [0xF0#8]
  | .rm => [0xF8#8]
  | .push rp => [opcode224 0b11#2 rp.code 0b0101#4]
  | .pushPsw => [0xF5#8]
  | .pop rp => [opcode224 0b11#2 rp.code 0b0001#4]
  | .popPsw => [0xF1#8]
  | .xthl => [0xE3#8]
  | .stc => [0x37#8]
  | .cmc => [0x3F#8]
  | .inPort p => [0xDB#8, p]
  | .outPort p => [0xD3#8, p]
  | .nop => [0x00#8]
  | .hlt => [0x76#8]
  | .di => [0xF3#8]
  | .ei => [0xFB#8]
  | .undoc08 => [0x08#8]
  | .undoc10 => [0x10#8]
  | .undoc18 => [0x18#8]
  | .undoc20 => [0x20#8]
  | .undoc28 => [0x28#8]
  | .undoc30 => [0x30#8]
  | .undoc38 => [0x38#8]
  | .undocCB aa => withWord 0xCB#8 aa
  | .undocD9 => [0xD9#8]
  | .undocDD aa => withWord 0xDD#8 aa
  | .undocED aa => withWord 0xED#8 aa
  | .undocFD aa => withWord 0xFD#8 aa

/-! ## Words numbered as the opcode table numbers them -/

/-- Byte `k` of an instruction whose `nbits` bits are the number `w`, bit 0 being the least significant bit of the
first byte; every bit above `nbits` is 0. -/
def tableByte (nbits w k : Nat) : Byte := BitVec.ofNat 8 ((w % 2 ^ nbits) / 256 ^ k)

/-- What the decoder reads from an instruction whose bits are `w`, numbered as `spec/opcode_table.json` numbers
them: its three bytes in ascending order (R80), the decoder's answer, `none` where it refuses. -/
def decodeTableWord (nbits w : Nat) : Option Instr :=
  match decode [tableByte nbits w 0, tableByte nbits w 1, tableByte nbits w 2] with
  | .ok r => some r.1
  | .error _ => none

end Sys2Proof
end

