-- ==== Sys2Proof/Config.lean ====
section
/-!
DEFINITION. What an implementation or a platform fixes, and the free values.

The spec leaves some points open under a NAMED PARAMETER with a list of values (`92_eei_decisions.md`,
"Parameters in one list"). Each such parameter is a type here, with one constructor per value of the spec;
`Params` collects them, and the machine's state carries one `Params` that no step writes, so that a statement
about every state is a statement about every value of every parameter.
Parameters the spec fixes to one value (BYTE_ORDER, IO_PORT_WIDTH, FLAG_BYTE_FIXED_BITS, RESET_STATE, EI_DELAY,
END_OF_RUN) are built into the definitions that use them.
-/

namespace Sys2Proof

/-- `UNDOC_OPCODES` (R94, D2): what the twelve opcode values do that no listed instruction uses. -/
inductive UndocOpcodes where
  /-- The spec's value `refuse`: the step is refused by name. -/
  | refuse
  /-- The spec's other value: the byte acts as NOP, JMP, RET or CALL, as on real silicon. -/
  | asSilicon
deriving DecidableEq, Repr

/-- `ROTATE_READING` (R170, D3): which pair of rotates goes through the carry. -/
inductive RotateReading where
  /-- RLC and RRC rotate 8 bits, RAL and RAR rotate 9 bits through CY. -/
  | intel
  /-- The source's literal text: the operations of RLC and RAL, and of RRC and RAR, change places. -/
  | sourceLiteral
deriving DecidableEq, Repr

/-- `AC_ON_SUBTRACT` (R131, D5): the auxiliary carry after a subtraction, a compare or DCR. -/
inductive AcOnSubtract where
  /-- AC is the carry out of bit 3 of the complement addition, not inverted. -/
  | carryOfComplementAdd
  /-- AC is the borrow, the inverse. -/
  | borrow
deriving DecidableEq, Repr

/-- `AC_ON_AND` (R160, D6): the auxiliary carry after ANA and ANI. -/
inductive AcOnAnd where
  /-- AC is bit 3 of (old A OR operand). -/
  | orBit3
  /-- AC is 1. -/
  | one
  /-- AC is 0. -/
  | zero
deriving DecidableEq, Repr

/-- `INT_INJECTED_INSTRUCTION` (R278, D9): what an interrupting device may supply at acknowledge. -/
inductive IntInjected where
  /-- RST n is executed; any other byte is refused by name. -/
  | rstOnly
  /-- Any instruction is executed, its further bytes taken from the environment, PC not incremented. -/
  | any
deriving DecidableEq, Repr

/-- The classes of address of `MEMORY_MAP` (R64). -/
inductive RegionKind where
  /-- Reads return the last byte written; writes store. -/
  | ram
  /-- Reads return a fixed byte; writes have no effect. -/
  | rom
  /-- Unmapped, or a device: reads return a draw; writes are recorded and change no memory. -/
  | device
deriving DecidableEq, Repr

/-- One region of `MEMORY_MAP` (R64): `size` addresses from `base` upward, all of one kind. -/
structure Region where
  base : Word
  size : Nat
  kind : RegionKind
deriving DecidableEq, Repr

/-- The model's parameters, each with the values the spec lists for it (`92_eei_decisions.md`).
`memoryMap` is read from its head: the first region that holds an address decides its kind, and an address
in no region is RAM, so that the empty map is the spec's decided default "all 65 536 addresses are ram" (R64). -/
structure Params where
  undocOpcodes  : UndocOpcodes
  rotateReading : RotateReading
  acOnSubtract  : AcOnSubtract
  acOnAnd       : AcOnAnd
  intInjected   : IntInjected
  memoryMap     : List Region
deriving DecidableEq, Repr

/-- The byte that an address of memory reads as when nothing has been placed or written there.
The spec gives memory no content at power-on (R45, U3). DESIGN CHOICE, unsafe, log entry 5: 00h, the value that the
spec's own programs assume for memory not listed (`95_test_vectors.md` part 3). -/
def Config.powerOnByte : Byte := 0#8

/-- FREE VALUE. The n-th byte drawn from the environment beyond those the state schedules: what an input port
answers to IN (R58, U6) and what a read of an unmapped or device address returns (R64, U7). Nothing constrains it;
log entry 6. -/
opaque Config.freeByte : Nat → Byte

end Sys2Proof
end

