-- ==== Sys2Proof/Machine/Parameters.lean ====
section
/-!
DEFINITION. The values the parameters start with.
-/

namespace Sys2Proof

/-- The spec's decided default of every parameter (`92_eei_decisions.md`, "Parameters in one list"): UNDOC_OPCODES =
refuse (D2, R94, R261), ROTATE_READING = intel (D3), AC_ON_SUBTRACT = carry_of_complement_add (D5), AC_ON_AND =
or_bit3 (D6), INT_INJECTED_INSTRUCTION = rst_only (D9, R278), MEMORY_MAP all RAM (D13, R64). -/
def Params.initial : Params :=
  { undocOpcodes := .refuse
    rotateReading := .intel
    acOnSubtract := .carryOfComplementAdd
    acOnAnd := .orBit3
    intInjected := .rstOnly
    memoryMap := [] }

end Sys2Proof
end

