-- ==== Sys2Proof/Machine/State.lean ====
section
/-!
DEFINITION. The state of one Intel 8080 as plain data (R36), what stands beside it because a step takes no argument
(the memory of R50, the inputs of R36, the output history of R58), the reasons a step can stop, and the state after
RESET (R45).
-/

namespace Sys2Proof.Machine

/-- Memory: the (address, byte) pairs that differ from what an unlisted address reads as, addresses strictly rising.
`Memory.wf` in `Sys2Proof/Machine/Ops.lean` says the form. -/
abbrev Memory := List Host.Cell

/-- The inputs of ONE step (R36, R97): the levels of the RESET and INT pins at the instruction boundary, and the
bytes an interrupting device would put on the data bus in the acknowledge cycles (R276, R278). -/
structure StepInputs where
  /-- the RESET pin is asserted -/
  reset : Bool
  /-- the level of the INT pin (R273) -/
  int : Bool
  /-- the byte of the acknowledge cycle, the spec's `inputs.INT_INSTR` (R276) -/
  intInstr : Byte
  /-- the byte of a second acknowledge cycle, used only by an injected instruction of 2 or 3 bytes (R278) -/
  intByte2 : Byte
  /-- the byte of a third acknowledge cycle, used only by an injected instruction of 3 bytes (R278) -/
  intByte3 : Byte
deriving DecidableEq, Repr

/-- No reset and no interrupt request. -/
def StepInputs.quiet : StepInputs :=
  { reset := false, int := false, intInstr := 0#8, intByte2 := 0#8, intByte3 := 0#8 }

/-- The state. The fields down to `eiDelay` are the complete state vector of R36; `mem` is R50's memory, `outputs`
the output history of R58 and `busWrites` the record of R64; the last four are the MODEL's own: the environment's
schedule of inputs, its schedule of bytes, the counter of free values, and the parameters. -/
structure State where
  /-- the accumulator (R20) -/
  a : Byte
  /-- general register B, the high byte of BC (R20, R21) -/
  b : Byte
  /-- general register C, the low byte of BC (R20, R21) -/
  c : Byte
  /-- general register D, the high byte of DE (R20, R21) -/
  d : Byte
  /-- general register E, the low byte of DE (R20, R21) -/
  e : Byte
  /-- general register H, the high byte of HL (R20, R21) -/
  h : Byte
  /-- general register L, the low byte of HL (R20, R21) -/
  l : Byte
  /-- the stack pointer SP (R23) -/
  sp : Word
  /-- the program counter PC (R24) -/
  pc : Word
  /-- the flag S (R26, R28) -/
  sf : Bool
  /-- the flag Z (R26, R28) -/
  zf : Bool
  /-- the flag AC, the source's H (R26, R28) -/
  acf : Bool
  /-- the flag P (R26, R28) -/
  pf : Bool
  /-- the flag CY, the source's C (R26, R28) -/
  cyf : Bool
  /-- INTE, the interrupt-enable flip-flop (R32) -/
  inte : Bool
  /-- halted (R33) -/
  halted : Bool
  /-- ei_delay (R34) -/
  eiDelay : Bool
  /-- the memory space of 65 536 bytes (R50) -/
  mem : Memory
  /-- the output history: the events (port, byte) of OUT, oldest first (R58, R246) -/
  outputs : List (Byte × Byte)
  /-- the writes to unmapped or device addresses, oldest first (R64) -/
  busWrites : List (Word × Byte)
  /-- the inputs of the coming steps, the next step's first; beyond the list the pins are quiet -/
  inputs : List StepInputs
  /-- the bytes the environment presents at the coming draws, the next first (R58, R64); beyond the list a draw is
  a free value -/
  envBytes : List Byte
  /-- how many free values have been drawn; it indexes `Config.freeByte` -/
  drawCount : Nat
  /-- the parameters (`92_eei_decisions.md`); no step writes them -/
  params : Params
deriving DecidableEq, Repr

/-- The machine right after RESET (R45): PC = 0000h, INTE = 0, halted = 0, ei_delay = 0. The spec states no value
for A to L, SP and the flags ("unspecified"): 0, DESIGN CHOICE, unsafe, log entry 4. Memory lists nothing (log entry
5), nothing is scheduled by the environment (log entries 6 and 7), and the parameters stand at the spec's decided
defaults. -/
def State.reset : State :=
  { a := 0#8, b := 0#8, c := 0#8, d := 0#8, e := 0#8, h := 0#8, l := 0#8
    sp := 0#16, pc := 0#16
    sf := false, zf := false, acf := false, pf := false, cyf := false
    inte := false, halted := false, eiDelay := false
    mem := [], outputs := [], busWrites := []
    inputs := [], envBytes := [], drawCount := 0
    params := Params.initial }

/-- The faults of a step: NONE, so this type has no constructor. The 8080 raises no synchronous exception of any kind
(R270): no illegal-instruction trap, no alignment or bus error, no arithmetic trap. Safe: no step can claim one. -/
inductive Fault where
deriving DecidableEq, Repr

/-- The reasons a step has no meaning. R271 lists the two of the spec. Each carries the state in which the run stops,
as R94 and R278 describe it (log entry 9); nothing runs on from it. -/
inductive Refusal where
  /-- Raised by an arm of `exec` whose instruction has no meaning yet; no arm does. Safe. -/
  | notModelled (mnemonic : String)
  /-- `raise UndocumentedOpcode(op)` (R94): raised by the twelve undocumented opcode values, only where
  `UNDOC_OPCODES = refuse`. In `stop`, PC is past byte 1 (unmoved, where a device supplied the byte) and no
  other state has changed. Safe: nothing can be proved of the run beyond it. -/
  | undocumentedOpcode (op : Byte) (stop : State)
  /-- `raise UnsupportedInjectedInstruction(b)` (R278): raised by interrupt acceptance when the device supplies a
  byte that is no RST n, only where `INT_INJECTED_INSTRUCTION = rst_only`. In `stop`, INTE and halted have been
  cleared. Safe, as above. -/
  | unsupportedInjectedInstruction (b : Byte) (stop : State)
deriving DecidableEq, Repr

end Sys2Proof.Machine
end

