-- ==== Sys2Proof/Machine/Ops.lean ====
section
/-!
DEFINITION. The named operations over memory, the I/O space, the stack and the control state, one definition for each
primitive of the spec: MemRead and MemWrite (R55, R56, R64), IoRead and IoWrite (R58), Fetch8 (R57), push16 and pop16
(R225, R226), interrupt acceptance (R276, R277) with its return beside it (R280), and RESET (R300).
-/

namespace Sys2Proof.Machine

/-! ## Memory as data -/

/-- The byte at an address. Addresses rise, so the search ends at the first greater one; an unlisted address reads
as `Config.powerOnByte` (U3, log entry 5). -/
def Memory.read : Memory → Nat → Byte
  | [], _ => Config.powerOnByte
  | (k, v) :: rest, a =>
    if a < k then Config.powerOnByte else if a = k then v else Memory.read rest a

/-- The memory with byte `v` at address `a`, in canonical form: writing what an unlisted address reads as removes
the entry. -/
def Memory.write : Memory → Nat → Byte → Memory
  | [], a, v => if v = Config.powerOnByte then [] else [(a, v)]
  | (k, w) :: rest, a, v =>
    if a < k then (if v = Config.powerOnByte then (k, w) :: rest else (a, v) :: (k, w) :: rest)
    else if a = k then (if v = Config.powerOnByte then Memory.write rest a v else (a, v) :: rest)
    else (k, w) :: Memory.write rest a v

/-- Every address listed is greater than `k`, told from the first one. -/
def Memory.above (k : Nat) : Memory → Bool
  | [] => true
  | (k', _) :: _ => decide (k < k')

/-- The canonical form: addresses below 65 536 and strictly rising, no entry equal to what an unlisted address
reads as. -/
def Memory.wf : Memory → Bool
  | [] => true
  | (k, v) :: rest =>
    decide (k < 65536) && decide (v ≠ Config.powerOnByte) && Memory.above k rest && Memory.wf rest

/-! ## The memory map and the environment -/

/-- The kind of an address: that of the first region that holds it, and RAM where none does (R64). -/
def regionKind : List Region → Word → RegionKind
  | [], _ => .ram
  | r :: rs, a =>
    if r.base.toNat ≤ a.toNat ∧ a.toNat < r.base.toNat + r.size then r.kind else regionKind rs a

/-- The kind of an address in this state's memory map (R64). -/
def State.kindAt (s : State) (a : Word) : RegionKind := regionKind s.params.memoryMap a

/-- A byte the environment chooses (R58, R64): the next of the bytes the state schedules, else a free value. -/
def State.draw (s : State) : Byte × State :=
  match s.envBytes with
  | v :: rest => (v, { s with envBytes := rest })
  | [] => (Config.freeByte s.drawCount, { s with drawCount := s.drawCount + 1 })

/-- `MemRead(a, 1)` (R55, R64): RAM and ROM give the byte of memory, an unmapped or device address a draw. -/
def State.memRead (s : State) (a : Word) : Byte × State :=
  match s.kindAt a with
  | .ram => (s.mem.read a.toNat, s)
  | .rom => (s.mem.read a.toNat, s)
  | .device => s.draw

/-- `MemWrite(a, 1, v)` (R56, R64): RAM stores, ROM ignores, an unmapped or device address records the write. -/
def State.memWrite (s : State) (a : Word) (v : Byte) : State :=
  match s.kindAt a with
  | .ram => { s with mem := s.mem.write a.toNat v }
  | .rom => s
  | .device => { s with busWrites := s.busWrites ++ [(a, v)] }

/-- `IoRead(p)` (R58): a byte the environment chooses, under no law; two reads of a port may differ. -/
def State.ioRead (s : State) (_p : Byte) : Byte × State := s.draw

/-- `IoWrite(p, v)` (R58): the event (p, v) is appended to the output history. -/
def State.ioWrite (s : State) (p v : Byte) : State := { s with outputs := s.outputs ++ [(p, v)] }

/-! ## Fetch -/

/-- `Fetch8()` (R57): the byte at PC, and PC one further, modulo 65536. -/
def State.fetch8 (s : State) : Byte × State :=
  let r := s.memRead s.pc
  (r.1, { r.2 with pc := s.pc + 1#16 })

/-- How many bytes are fetched of the instruction whose byte 1 is `op`: its length (R83), but byte 1 alone of an
undocumented opcode that is refused (R94: PC is past byte 1 then, and R83 gives it no length). -/
def fetchLength (mode : UndocOpcodes) (op : Byte) : Nat :=
  match mode with
  | .refuse => if isUndocumented op then 1 else opcodeLength op
  | .asSilicon => opcodeLength op

/-- The bytes of the instruction at PC, read in ascending order before any effect (R24(b), R83), and the
instruction they are. -/
def State.fetchInstr (s : State) : Instr × State :=
  let f1 := s.fetch8
  let n := fetchLength s.params.undocOpcodes f1.1
  if n = 1 then (decodeBytes f1.1 0#8 0#8, f1.2)
  else
    let f2 := f1.2.fetch8
    if n = 2 then (decodeBytes f1.1 f2.1 0#8, f2.2)
    else
      let f3 := f2.2.fetch8
      (decodeBytes f1.1 f2.1 f3.1, f3.2)

/-! ## The stack, calls and returns -/

/-- `push16(v)` (R225): the high byte to SP-1 first, then the low byte to SP-2, then SP two lower. -/
def State.push16 (s : State) (v : Word) : State :=
  let s1 := s.memWrite (s.sp - 1#16) (hiByte v)
  let s2 := s1.memWrite (s.sp - 2#16) (loByte v)
  { s2 with sp := s.sp - 2#16 }

/-- `pop16()` (R226): the low byte from SP first, then the high byte from SP+1, then SP two higher. -/
def State.pop16 (s : State) : Word × State :=
  let lo := s.memRead s.sp
  let hi := lo.2.memRead (s.sp + 1#16)
  (joinBytes hi.1 lo.1, { hi.2 with sp := s.sp + 2#16 })

/-- `push16(PC); PC <- target` (R192, R201): PC is the address of the next instruction. -/
def State.callTo (s : State) (target : Word) : State := { s.push16 s.pc with pc := target }

/-- `PC <- pop16()` (R202). It is the return from an interrupt too: the 8080 has no other (R280). -/
def State.returnFromCall (s : State) : State :=
  let r := s.pop16
  { r.2 with pc := r.1 }

/-- The entry of restart n, 8*n (R201, R63). -/
def restartAddress (n : BitVec 3) : Word := BitVec.ofNat 16 (8 * n.toNat)

/-! ## The interrupt and RESET -/

/-- What the acknowledge changes before the injected instruction runs (R276): INTE and halted are cleared, and
ei_delay as by every instruction. PC is not incremented. -/
def State.acknowledge (s : State) : State := { s with inte := false, halted := false, eiDelay := false }

/-- TAKING AN INTERRUPT whose device supplies RST n (R276, R277): the acknowledge, PC pushed, PC <- 8*n; nothing
else is saved or changed. -/
def State.takeInterrupt (s : State) (n : BitVec 3) : State := s.acknowledge.callTo (restartAddress n)

/-- The step of the RESET input (R300): four values, and nothing else is written. -/
def State.applyReset (s : State) : State :=
  { s with pc := 0#16, inte := false, halted := false, eiDelay := false }

/-- The inputs of the coming step (R36): the first of those scheduled, quiet pins where none is. -/
def State.currentInputs (s : State) : StepInputs :=
  match s.inputs with
  | i :: _ => i
  | [] => StepInputs.quiet

/-- The schedule without the inputs of the coming step. -/
def State.consumeInputs (s : State) : State := { s with inputs := s.inputs.tail }

/-- An interrupt is accepted at this boundary (R275): INTE = 1, ei_delay = 0 and INT = 1. -/
def State.accepts (s : State) (i : StepInputs) : Bool := s.inte && !s.eiDelay && i.int

/-- The byte is an RST n, `11nnn111` (R276). -/
def isRst (v : Byte) : Bool := decide (v &&& 0xC7#8 = 0xC7#8)

/-- The restart number of an RST byte, its bits 5:3 (R276). -/
def rstNumber (v : Byte) : BitVec 3 := v.extractLsb' 3 3

end Sys2Proof.Machine
end

