-- ==== Sys2Proof/Machine/Operands.lean ====
section
/-!
DEFINITION. The operand forms: registers and register pairs (R20, R21, R23), the operand r with its M case (R8, R22)
and the conditions (R180).
-/

namespace Sys2Proof.Machine

/-- The value of a register (R20). -/
def State.getReg (s : State) : Reg → Byte
  | .b => s.b
  | .c => s.c
  | .d => s.d
  | .e => s.e
  | .h => s.h
  | .l => s.l
  | .a => s.a

/-- A write to a register (R20); none is hardwired. -/
def State.setReg (s : State) (r : Reg) (v : Byte) : State :=
  match r with
  | .b => { s with b := v }
  | .c => { s with c := v }
  | .d => { s with d := v }
  | .e => { s with e := v }
  | .h => { s with h := v }
  | .l => { s with l := v }
  | .a => { s with a := v }

/-- The pair HL, H the high byte (R21): the address of every M operand (R22). -/
def State.hl (s : State) : Word := joinBytes s.h s.l

/-- The value of a pair or of SP (R21, R23). -/
def State.getPair (s : State) : Pair → Word
  | .bc => joinBytes s.b s.c
  | .de => joinBytes s.d s.e
  | .hl => joinBytes s.h s.l
  | .sp => s.sp

/-- A write to a pair writes both its registers, the first one the high byte (R8, R21); a write to SP, SP. -/
def State.setPair (s : State) (rp : Pair) (v : Word) : State :=
  match rp with
  | .bc => { s with b := hiByte v, c := loByte v }
  | .de => { s with d := hiByte v, e := loByte v }
  | .hl => { s with h := hiByte v, l := loByte v }
  | .sp => { s with sp := v }

/-- `rd8` (R8): the register, or for M the byte of memory at HL. -/
def State.readOpd (s : State) (o : Opd) : Byte × State :=
  match o with
  | .reg r => (s.getReg r, s)
  | .m => s.memRead s.hl

/-- `wr8` (R8): the register, or for M the byte of memory at HL. -/
def State.writeOpd (s : State) (o : Opd) (v : Byte) : State :=
  match o with
  | .reg r => s.setReg r v
  | .m => s.memWrite s.hl v

/-- `cond(ccc)` (R180, R86), on the flags as they are before the instruction (R181). -/
def State.cond (s : State) : Cond → Bool
  | .nz => !s.zf
  | .z => s.zf
  | .nc => !s.cyf
  | .c => s.cyf
  | .po => !s.pf
  | .pe => s.pf
  | .p => !s.sf
  | .m => s.sf

end Sys2Proof.Machine
end

