-- ==== Sys2Proof/Machine/Flags.lean ====
section
/-!
DEFINITION. Every flag computation of the spec: parity and `setZSP` (R28, R29), the flag byte (R27), the ALU primitives
`add8` and `sub8` (R130, R131), the auxiliary carries of ANA (R160), INR (R142) and DCR (R143), the decimal correction
(R147), the four rotations (R170 to R174) and the 16-bit sum (R146). Each is a function of values; the ways of writing
its results into the state stand at the end.
-/

namespace Sys2Proof.Machine

/-- `parity8(v)` (R28): the number of 1 bits is even. -/
def parity8 (v : Byte) : Bool :=
  decide (((v.getLsbD 7).toNat + (v.getLsbD 6).toNat + (v.getLsbD 5).toNat + (v.getLsbD 4).toNat
    + (v.getLsbD 3).toNat + (v.getLsbD 2).toNat + (v.getLsbD 1).toNat + (v.getLsbD 0).toNat) % 2 = 0)

/-- `setZSP(v)` (R29). -/
def State.setZSP (s : State) (v : Byte) : State :=
  { s with zf := decide (v = 0#8), sf := v.getLsbD 7, pf := parity8 v }

/-- `flagbyte()` (R27): S Z 0 AC 0 P 1 CY, bit 7 first. -/
def State.flagByte (s : State) : Byte :=
  BitVec.ofBool s.sf ++ BitVec.ofBool s.zf ++ 0b0#1 ++ BitVec.ofBool s.acf ++ 0b0#1 ++ BitVec.ofBool s.pf
    ++ 0b1#1 ++ BitVec.ofBool s.cyf

/-- `setflags(f)` (R27): bits 5, 3 and 1 are ignored. -/
def State.setFlags (s : State) (f : Byte) : State :=
  { s with sf := f.getLsbD 7, zf := f.getLsbD 6, acf := f.getLsbD 4, pf := f.getLsbD 2, cyf := f.getLsbD 0 }

/-- `add8(a, b, cin)` (R130): the result, the carry out of bit 7 and the carry out of bit 3. -/
def add8 (a b : Byte) (cin : Bool) : Byte × Bool × Bool :=
  let t := a.toNat + b.toNat + cin.toNat
  (BitVec.ofNat 8 t, decide (256 ≤ t), decide (16 ≤ a.toNat % 16 + b.toNat % 16 + cin.toNat))

/-- `sub8(a, b, bin)` (R131): the complement addition; CY is its carry inverted, AC its carry out of bit 3, which
`AC_ON_SUBTRACT = borrow` inverts. -/
def sub8 (mode : AcOnSubtract) (a b : Byte) (bin : Bool) : Byte × Bool × Bool :=
  let r := add8 a (~~~b) (!bin)
  (r.1, !r.2.1, match mode with
    | .carryOfComplementAdd => r.2.2
    | .borrow => !r.2.2)

/-- The auxiliary carry of ANA and ANI (R160), from A before the write and the operand. -/
def andAuxCarry (mode : AcOnAnd) (a b : Byte) : Bool :=
  match mode with
  | .orBit3 => (a ||| b).getLsbD 3
  | .one => true
  | .zero => false

/-- The auxiliary carry of INR (R142), from the incremented value. -/
def incAuxCarry (v : Byte) : Bool := decide (v.toNat % 16 = 0)

/-- The auxiliary carry of DCR (R143), from the decremented value. -/
def decAuxCarry (mode : AcOnSubtract) (v : Byte) : Bool :=
  match mode with
  | .carryOfComplementAdd => decide (v.toNat % 16 ≠ 15)
  | .borrow => decide (v.toNat % 16 = 15)

/-- DAA (R147) on A, AC and CY: the corrected value, the new CY and the new AC. -/
def decimalAdjust (a : Byte) (ac cy : Bool) : Byte × Bool × Bool :=
  let low := ac || decide (a.toNat % 16 > 9)
  let high := cy || decide (a.toNat / 16 > 9) || (decide (a.toNat / 16 ≥ 9) && decide (a.toNat % 16 > 9))
  let corr := (if low then 0x06#8 else 0x00#8) ||| (if high then 0x60#8 else 0x00#8)
  let r := add8 a corr false
  (r.1, if high then true else cy, r.2.2)

/-- `A[6:0] ++ A[7]`, and the bit rotated out (R171). -/
def rotateLeft8 (a : Byte) : Byte × Bool :=
  (a.extractLsb' 0 7 ++ BitVec.ofBool (a.getLsbD 7), a.getLsbD 7)

/-- `A[0] ++ A[7:1]`, and the bit rotated out (R172). -/
def rotateRight8 (a : Byte) : Byte × Bool :=
  (BitVec.ofBool (a.getLsbD 0) ++ a.extractLsb' 1 7, a.getLsbD 0)

/-- `A[6:0] ++ CY`, and the bit rotated out (R173). -/
def rotateLeft9 (a : Byte) (cy : Bool) : Byte × Bool :=
  (a.extractLsb' 0 7 ++ BitVec.ofBool cy, a.getLsbD 7)

/-- `CY ++ A[7:1]`, and the bit rotated out (R174). -/
def rotateRight9 (a : Byte) (cy : Bool) : Byte × Bool :=
  (BitVec.ofBool cy ++ a.extractLsb' 1 7, a.getLsbD 0)

/-- The 16-bit sum of DAD and its carry out of bit 15 (R146). -/
def add16 (x y : Word) : Word × Bool :=
  let t := x.toNat + y.toNat
  (BitVec.ofNat 16 t, decide (65536 ≤ t))

/-! ## Writing results -/

/-- All five flags from an ALU result (R132, R140): S, Z and P from its value, CY and AC as it says. -/
def State.setAluFlags (s : State) (r : Byte × Bool × Bool) : State :=
  { s.setZSP r.1 with cyf := r.2.1, acf := r.2.2 }

/-- A and all five flags from an ALU result (R132). -/
def State.setAlu (s : State) (r : Byte × Bool × Bool) : State :=
  { s.setAluFlags r with a := r.1 }

/-- A and CY from a rotation, nothing else (R170). -/
def State.setRotated (s : State) (r : Byte × Bool) : State := { s with a := r.1, cyf := r.2 }

/-- `A <- A + b + cin` with its flags (R132 to R135). -/
def State.addToA (s : State) (v : Byte) (cin : Bool) : State := s.setAlu (add8 s.a v cin)

/-- `A <- A - b - bin` with its flags (R136 to R139). -/
def State.subFromA (s : State) (v : Byte) (bin : Bool) : State :=
  s.setAlu (sub8 s.params.acOnSubtract s.a v bin)

/-- The flags of `A - b`, A not written (R140, R141). -/
def State.compareA (s : State) (v : Byte) : State :=
  s.setAluFlags (sub8 s.params.acOnSubtract s.a v false)

/-- `A <- A & b`, CY <- 0, AC as `AC_ON_AND` says (R160, R161). -/
def State.andA (s : State) (v : Byte) : State :=
  s.setAlu (s.a &&& v, false, andAuxCarry s.params.acOnAnd s.a v)

/-- `A <- A | b`, CY <- 0, AC <- 0 (R162, R163). -/
def State.orA (s : State) (v : Byte) : State := s.setAlu (s.a ||| v, false, false)

/-- `A <- A ^ b`, CY <- 0, AC <- 0 (R164, R165). -/
def State.xorA (s : State) (v : Byte) : State := s.setAlu (s.a ^^^ v, false, false)

end Sys2Proof.Machine
end

