-- ==== Sys2Proof/Machine/Arithmetic.lean ====
section
/-!
DEFINITION. The arithmetic instructions (`41_arithmetic.md` R130 to R147). Overflow, carry and borrow are reported
through the flags only; none raises an exception (R270).
-/

namespace Sys2Proof.Machine

/-- ADD r (R132): A + r. -/
def execAdd (o : Opd) (s : State) : Host.Outcome State Fault Refusal :=
  let r := s.readOpd o
  .next (r.2.addToA r.1 false)

/-- ADI n (R133). -/
def execAdi (n : Byte) (s : State) : Host.Outcome State Fault Refusal :=
  .next (s.addToA n false)

/-- ADC r (R134): A + r + CY, the CY before the instruction. -/
def execAdc (o : Opd) (s : State) : Host.Outcome State Fault Refusal :=
  let r := s.readOpd o
  .next (r.2.addToA r.1 s.cyf)

/-- ACI n (R135). -/
def execAci (n : Byte) (s : State) : Host.Outcome State Fault Refusal :=
  .next (s.addToA n s.cyf)

/-- SUB r (R136): A - r. -/
def execSub (o : Opd) (s : State) : Host.Outcome State Fault Refusal :=
  let r := s.readOpd o
  .next (r.2.subFromA r.1 false)

/-- SUI n (R137). -/
def execSui (n : Byte) (s : State) : Host.Outcome State Fault Refusal :=
  .next (s.subFromA n false)

/-- SBB r (R138): A - r - CY, the CY before the instruction. -/
def execSbb (o : Opd) (s : State) : Host.Outcome State Fault Refusal :=
  let r := s.readOpd o
  .next (r.2.subFromA r.1 s.cyf)

/-- SBI n (R139). -/
def execSbi (n : Byte) (s : State) : Host.Outcome State Fault Refusal :=
  .next (s.subFromA n s.cyf)

/-- CMP r (R140): the flags of SUB, A not written. -/
def execCmp (o : Opd) (s : State) : Host.Outcome State Fault Refusal :=
  let r := s.readOpd o
  .next (r.2.compareA r.1)

/-- CPI n (R141): the flags of SUI, A not written. -/
def execCpi (n : Byte) (s : State) : Host.Outcome State Fault Refusal :=
  .next (s.compareA n)

/-- INR r (R142): CY unchanged. -/
def execInr (o : Opd) (s : State) : Host.Outcome State Fault Refusal :=
  let r := s.readOpd o
  let v := r.1 + 1#8
  .next { (r.2.writeOpd o v).setZSP v with acf := incAuxCarry v }

/-- DCR r (R143): CY unchanged. -/
def execDcr (o : Opd) (s : State) : Host.Outcome State Fault Refusal :=
  let r := s.readOpd o
  let v := r.1 - 1#8
  .next { (r.2.writeOpd o v).setZSP v with acf := decAuxCarry s.params.acOnSubtract v }

/-- INX rp (R144): no flag. -/
def execInx (rp : Pair) (s : State) : Host.Outcome State Fault Refusal :=
  .next (s.setPair rp (s.getPair rp + 1#16))

/-- DCX rp (R145): no flag. -/
def execDcx (rp : Pair) (s : State) : Host.Outcome State Fault Refusal :=
  .next (s.setPair rp (s.getPair rp - 1#16))

/-- DAD rp (R146): CY only. -/
def execDad (rp : Pair) (s : State) : Host.Outcome State Fault Refusal :=
  let r := add16 s.hl (s.getPair rp)
  .next { s.setPair .hl r.1 with cyf := r.2 }

/-- DAA (R147). -/
def execDaa (s : State) : Host.Outcome State Fault Refusal :=
  .next (s.setAlu (decimalAdjust s.a s.acf s.cyf))

end Sys2Proof.Machine
end

