-- ==== Sys2Proof/Machine/Branch.lean ====
section
/-!
DEFINITION. The branch control instructions (`44_branch.md` R180 to R210). None writes a flag; PC is the address of the
next sequential instruction when the meaning starts (R24(b)), so a condition that does not hold changes nothing.
-/

namespace Sys2Proof.Machine

/-- `if cond then PC <- aa` (R181, R183 to R190). -/
def State.jumpIf (s : State) (k : Cond) (aa : Word) : State := if s.cond k then { s with pc := aa } else s

/-- `if cond then push16(PC); PC <- aa` (R181, R193 to R200). -/
def State.callIf (s : State) (k : Cond) (aa : Word) : State := if s.cond k then s.callTo aa else s

/-- `if cond then PC <- pop16()`; not taken, the stack is not read (R203 to R210). -/
def State.returnIf (s : State) (k : Cond) : State := if s.cond k then s.returnFromCall else s

/-- JMP aa (R182). -/
def execJmp (aa : Word) (s : State) : Host.Outcome State Fault Refusal :=
  .next { s with pc := aa }

/-- JNZ aa (R183). -/
def execJnz (aa : Word) (s : State) : Host.Outcome State Fault Refusal :=
  .next (s.jumpIf .nz aa)

/-- JZ aa (R184). -/
def execJz (aa : Word) (s : State) : Host.Outcome State Fault Refusal :=
  .next (s.jumpIf .z aa)

/-- JNC aa (R185). -/
def execJnc (aa : Word) (s : State) : Host.Outcome State Fault Refusal :=
  .next (s.jumpIf .nc aa)

/-- JC aa (R186). -/
def execJc (aa : Word) (s : State) : Host.Outcome State Fault Refusal :=
  .next (s.jumpIf .c aa)

/-- JPO aa (R187). -/
def execJpo (aa : Word) (s : State) : Host.Outcome State Fault Refusal :=
  .next (s.jumpIf .po aa)

/-- JPE aa (R188). -/
def execJpe (aa : Word) (s : State) : Host.Outcome State Fault Refusal :=
  .next (s.jumpIf .pe aa)

/-- JP aa (R189). -/
def execJp (aa : Word) (s : State) : Host.Outcome State Fault Refusal :=
  .next (s.jumpIf .p aa)

/-- JM aa (R190). -/
def execJm (aa : Word) (s : State) : Host.Outcome State Fault Refusal :=
  .next (s.jumpIf .m aa)

/-- PCHL (R191). -/
def execPchl (s : State) : Host.Outcome State Fault Refusal :=
  .next { s with pc := s.hl }

/-- CALL aa (R192). -/
def execCall (aa : Word) (s : State) : Host.Outcome State Fault Refusal :=
  .next (s.callTo aa)

/-- CNZ aa (R193). -/
def execCnz (aa : Word) (s : State) : Host.Outcome State Fault Refusal :=
  .next (s.callIf .nz aa)

/-- CZ aa (R194). -/
def execCz (aa : Word) (s : State) : Host.Outcome State Fault Refusal :=
  .next (s.callIf .z aa)

/-- CNC aa (R195). -/
def execCnc (aa : Word) (s : State) : Host.Outcome State Fault Refusal :=
  .next (s.callIf .nc aa)

/-- CC aa (R196). -/
def execCc (aa : Word) (s : State) : Host.Outcome State Fault Refusal :=
  .next (s.callIf .c aa)

/-- CPO aa (R197). -/
def execCpo (aa : Word) (s : State) : Host.Outcome State Fault Refusal :=
  .next (s.callIf .po aa)

/-- CPE aa (R198). -/
def execCpe (aa : Word) (s : State) : Host.Outcome State Fault Refusal :=
  .next (s.callIf .pe aa)

/-- CP aa (R199). -/
def execCp (aa : Word) (s : State) : Host.Outcome State Fault Refusal :=
  .next (s.callIf .p aa)

/-- CM aa (R200). -/
def execCm (aa : Word) (s : State) : Host.Outcome State Fault Refusal :=
  .next (s.callIf .m aa)

/-- RST n (R201): it does not change INTE. -/
def execRst (n : BitVec 3) (s : State) : Host.Outcome State Fault Refusal :=
  .next (s.callTo (restartAddress n))

/-- RET (R202). -/
def execRet (s : State) : Host.Outcome State Fault Refusal :=
  .next s.returnFromCall

/-- RNZ (R203). -/
def execRnz (s : State) : Host.Outcome State Fault Refusal :=
  .next (s.returnIf .nz)

/-- RZ (R204). -/
def execRz (s : State) : Host.Outcome State Fault Refusal :=
  .next (s.returnIf .z)

/-- RNC (R205). -/
def execRnc (s : State) : Host.Outcome State Fault Refusal :=
  .next (s.returnIf .nc)

/-- RC (R206). -/
def execRc (s : State) : Host.Outcome State Fault Refusal :=
  .next (s.returnIf .c)

/-- RPO (R207). -/
def execRpo (s : State) : Host.Outcome State Fault Refusal :=
  .next (s.returnIf .po)

/-- RPE (R208). -/
def execRpe (s : State) : Host.Outcome State Fault Refusal :=
  .next (s.returnIf .pe)

/-- RP (R209). -/
def execRp (s : State) : Host.Outcome State Fault Refusal :=
  .next (s.returnIf .p)

/-- RM (R210). -/
def execRm (s : State) : Host.Outcome State Fault Refusal :=
  .next (s.returnIf .m)

end Sys2Proof.Machine
end

