-- ==== Sys2Proof/Machine/Control.lean ====
section
/-!
DEFINITION. The CPU control instructions (`48_cpu_control.md` R250 to R253). ei_delay has been cleared before any meaning
runs (R97), so EI leaves it 1 across exactly one boundary.
-/

namespace Sys2Proof.Machine

/-- NOP (R250). -/
def execNop (s : State) : Host.Outcome State Fault Refusal :=
  .next s

/-- HLT (R251): PC holds the address of the byte after it. -/
def execHlt (s : State) : Host.Outcome State Fault Refusal :=
  .next { s with halted := true }

/-- DI (R252). -/
def execDi (s : State) : Host.Outcome State Fault Refusal :=
  .next { s with inte := false }

/-- EI (R253): every EI, with INTE already 1 too, sets ei_delay. -/
def execEi (s : State) : Host.Outcome State Fault Refusal :=
  .next { s with inte := true, eiDelay := true }

end Sys2Proof.Machine
end

