-- ==== Sys2Proof/Machine/FlagOps.lean ====
section
/-!
DEFINITION. The flag instructions (`46_flag.md` R240, R241): CY and nothing else.
-/

namespace Sys2Proof.Machine

/-- STC (R240). -/
def execStc (s : State) : Host.Outcome State Fault Refusal :=
  .next { s with cyf := true }

/-- CMC (R241). -/
def execCmc (s : State) : Host.Outcome State Fault Refusal :=
  .next { s with cyf := !s.cyf }

end Sys2Proof.Machine
end

