-- ==== Sys2Proof/Machine/InputOutput.lean ====
section
/-!
DEFINITION. The input/output instructions (`47_io.md` R245, R246): data moves between A and a port; no flag is written.
-/

namespace Sys2Proof.Machine

/-- IN p (R245). -/
def execIn (p : Byte) (s : State) : Host.Outcome State Fault Refusal :=
  let r := s.ioRead p
  .next { r.2 with a := r.1 }

/-- OUT p (R246). -/
def execOut (p : Byte) (s : State) : Host.Outcome State Fault Refusal :=
  .next (s.ioWrite p s.a)

end Sys2Proof.Machine
end

