-- ==== Sys2Proof/Machine/Logical.lean ====
section
/-!
DEFINITION. The logical instructions (`42_logical.md` R160 to R166). A is the first operand and the destination.
-/

namespace Sys2Proof.Machine

/-- ANA r (R160): A AND r. -/
def execAna (o : Opd) (s : State) : Host.Outcome State Fault Refusal :=
  let r := s.readOpd o
  .next (r.2.andA r.1)

/-- ANI n (R161). -/
def execAni (n : Byte) (s : State) : Host.Outcome State Fault Refusal :=
  .next (s.andA n)

/-- ORA r (R162): A OR r. -/
def execOra (o : Opd) (s : State) : Host.Outcome State Fault Refusal :=
  let r := s.readOpd o
  .next (r.2.orA r.1)

/-- ORI n (R163). -/
def execOri (n : Byte) (s : State) : Host.Outcome State Fault Refusal :=
  .next (s.orA n)

/-- XRA r (R164): A XOR r. -/
def execXra (o : Opd) (s : State) : Host.Outcome State Fault Refusal :=
  let r := s.readOpd o
  .next (r.2.xorA r.1)

/-- XRI n (R165). -/
def execXri (n : Byte) (s : State) : Host.Outcome State Fault Refusal :=
  .next (s.xorA n)

/-- CMA (R166): no flag. -/
def execCma (s : State) : Host.Outcome State Fault Refusal :=
  .next { s with a := ~~~s.a }

end Sys2Proof.Machine
end

