-- ==== Sys2Proof/Machine/Rotate.lean ====
section
/-!
DEFINITION. The rotate instructions (`43_rotate.md` R170 to R174), under both values of ROTATE_READING (R170):
`source_literal` swaps the operations of RLC with RAL and of RRC with RAR.
-/

namespace Sys2Proof.Machine

/-- RLC (R171, R170): A and CY only. -/
def execRlc (s : State) : Host.Outcome State Fault Refusal :=
  .next (s.setRotated (match s.params.rotateReading with
    | .intel => rotateLeft8 s.a
    | .sourceLiteral => rotateLeft9 s.a s.cyf))

/-- RRC (R172, R170): A and CY only. -/
def execRrc (s : State) : Host.Outcome State Fault Refusal :=
  .next (s.setRotated (match s.params.rotateReading with
    | .intel => rotateRight8 s.a
    | .sourceLiteral => rotateRight9 s.a s.cyf))

/-- RAL (R173, R170): A and CY only. -/
def execRal (s : State) : Host.Outcome State Fault Refusal :=
  .next (s.setRotated (match s.params.rotateReading with
    | .intel => rotateLeft9 s.a s.cyf
    | .sourceLiteral => rotateLeft8 s.a))

/-- RAR (R174, R170): A and CY only. -/
def execRar (s : State) : Host.Outcome State Fault Refusal :=
  .next (s.setRotated (match s.params.rotateReading with
    | .intel => rotateRight9 s.a s.cyf
    | .sourceLiteral => rotateRight8 s.a))

end Sys2Proof.Machine
end

