-- ==== Sys2Proof/Machine/Stack.lean ====
section
/-!
DEFINITION. The stack instructions (`45_stack.md` R227 to R231). There is no check of any kind on SP.
-/

namespace Sys2Proof.Machine

/-- PUSH rp (R227). -/
def execPush (rp : Pair) (s : State) : Host.Outcome State Fault Refusal :=
  .next (s.push16 (s.getPair rp))

/-- PUSH PSW (R228): A is the high byte, the flag byte the low one. -/
def execPushPsw (s : State) : Host.Outcome State Fault Refusal :=
  .next (s.push16 (joinBytes s.a s.flagByte))

/-- POP rp (R229). -/
def execPop (rp : Pair) (s : State) : Host.Outcome State Fault Refusal :=
  let r := s.pop16
  .next (r.2.setPair rp r.1)

/-- POP PSW (R230): all five flags from the popped low byte, A from the high one. -/
def execPopPsw (s : State) : Host.Outcome State Fault Refusal :=
  let r := s.pop16
  .next { r.2.setFlags (loByte r.1) with a := hiByte r.1 }

/-- XTHL (R231): read low, read high, write H to SP+1, write L to SP (R71); SP unchanged. -/
def execXthl (s : State) : Host.Outcome State Fault Refusal :=
  let lo := s.memRead s.sp
  let hi := lo.2.memRead (s.sp + 1#16)
  let w := (hi.2.memWrite (s.sp + 1#16) s.h).memWrite s.sp s.l
  .next { w with h := hi.1, l := lo.1 }

end Sys2Proof.Machine
end

