-- ==== Sys2Proof/Machine/Transfer.lean ====
section
/-!
DEFINITION. The transfer instructions (`40_transfer.md` R110 to R123). None writes a flag. The instruction's
bytes have been fetched and PC is past them (R24(b)).
-/

namespace Sys2Proof.Machine

/-- MOV r1,r2 (R110). -/
def execMovRR (dst src : Reg) (s : State) : Host.Outcome State Fault Refusal :=
  .next (s.setReg dst (s.getReg src))

/-- MOV r,M (R111): the address is HL before the write. -/
def execMovRM (dst : Reg) (s : State) : Host.Outcome State Fault Refusal :=
  let r := s.memRead s.hl
  .next (r.2.setReg dst r.1)

/-- MOV M,r (R112). -/
def execMovMR (src : Reg) (s : State) : Host.Outcome State Fault Refusal :=
  .next (s.memWrite s.hl (s.getReg src))

/-- MVI r,n (R113). -/
def execMviR (dst : Reg) (n : Byte) (s : State) : Host.Outcome State Fault Refusal :=
  .next (s.setReg dst n)

/-- MVI M,n (R114). -/
def execMviM (n : Byte) (s : State) : Host.Outcome State Fault Refusal :=
  .next (s.memWrite s.hl n)

/-- LXI rp,nn (R115). -/
def execLxi (rp : Pair) (nn : Word) (s : State) : Host.Outcome State Fault Refusal :=
  .next (s.setPair rp nn)

/-- LDA aa (R116). -/
def execLda (aa : Word) (s : State) : Host.Outcome State Fault Refusal :=
  let r := s.memRead aa
  .next { r.2 with a := r.1 }

/-- STA aa (R117). -/
def execSta (aa : Word) (s : State) : Host.Outcome State Fault Refusal :=
  .next (s.memWrite aa s.a)

/-- LHLD aa (R118): L from aa, then H from aa + 1 modulo 65536 (R71). -/
def execLhld (aa : Word) (s : State) : Host.Outcome State Fault Refusal :=
  let lo := s.memRead aa
  let hi := lo.2.memRead (aa + 1#16)
  .next { hi.2 with l := lo.1, h := hi.1 }

/-- SHLD aa (R119): L to aa, then H to aa + 1 modulo 65536 (R71). -/
def execShld (aa : Word) (s : State) : Host.Outcome State Fault Refusal :=
  .next ((s.memWrite aa s.l).memWrite (aa + 1#16) s.h)

/-- LDAX B or LDAX D (R120). -/
def execLdax (rp : Pair) (s : State) : Host.Outcome State Fault Refusal :=
  let r := s.memRead (s.getPair rp)
  .next { r.2 with a := r.1 }

/-- STAX B or STAX D (R121). -/
def execStax (rp : Pair) (s : State) : Host.Outcome State Fault Refusal :=
  .next (s.memWrite (s.getPair rp) s.a)

/-- SPHL (R122). -/
def execSphl (s : State) : Host.Outcome State Fault Refusal :=
  .next { s with sp := s.hl }

/-- XCHG (R123). -/
def execXchg (s : State) : Host.Outcome State Fault Refusal :=
  .next { s with h := s.d, l := s.e, d := s.h, e := s.l }

end Sys2Proof.Machine
end

