-- ==== Sys2Proof/Machine/Undocumented.lean ====
section
/-!
DEFINITION. The twelve opcode values no listed instruction uses (`30_encoding.md` R94), under both values of
UNDOC_OPCODES: refused by name, or acting as on real silicon.
-/

namespace Sys2Proof.Machine

/-- What an undocumented opcode `op` does in `s`, in which PC is past the bytes fetched (R94): the refusal
`UndocumentedOpcode(op)` with `s` unchanged, or the step to `silicon`. -/
def undocumented (op : Byte) (silicon s : State) : Host.Outcome State Fault Refusal :=
  match s.params.undocOpcodes with
  | .refuse => .refused (.undocumentedOpcode op s)
  | .asSilicon => .next silicon

/-- Opcode 08h (R94): NOP on silicon. -/
def execUndoc08 (s : State) : Host.Outcome State Fault Refusal :=
  undocumented 0x08#8 s s

/-- Opcode 10h (R94): NOP on silicon. -/
def execUndoc10 (s : State) : Host.Outcome State Fault Refusal :=
  undocumented 0x10#8 s s

/-- Opcode 18h (R94): NOP on silicon. -/
def execUndoc18 (s : State) : Host.Outcome State Fault Refusal :=
  undocumented 0x18#8 s s

/-- Opcode 20h (R94): NOP on silicon. -/
def execUndoc20 (s : State) : Host.Outcome State Fault Refusal :=
  undocumented 0x20#8 s s

/-- Opcode 28h (R94): NOP on silicon. -/
def execUndoc28 (s : State) : Host.Outcome State Fault Refusal :=
  undocumented 0x28#8 s s

/-- Opcode 30h (R94): NOP on silicon. -/
def execUndoc30 (s : State) : Host.Outcome State Fault Refusal :=
  undocumented 0x30#8 s s

/-- Opcode 38h (R94): NOP on silicon. -/
def execUndoc38 (s : State) : Host.Outcome State Fault Refusal :=
  undocumented 0x38#8 s s

/-- Opcode CBh (R94): JMP aa on silicon. -/
def execUndocCB (aa : Word) (s : State) : Host.Outcome State Fault Refusal :=
  undocumented 0xCB#8 { s with pc := aa } s

/-- Opcode D9h (R94): RET on silicon. -/
def execUndocD9 (s : State) : Host.Outcome State Fault Refusal :=
  undocumented 0xD9#8 s.returnFromCall s

/-- Opcode DDh (R94): CALL aa on silicon. -/
def execUndocDD (aa : Word) (s : State) : Host.Outcome State Fault Refusal :=
  undocumented 0xDD#8 (s.callTo aa) s

/-- Opcode EDh (R94): CALL aa on silicon. -/
def execUndocED (aa : Word) (s : State) : Host.Outcome State Fault Refusal :=
  undocumented 0xED#8 (s.callTo aa) s

/-- Opcode FDh (R94): CALL aa on silicon. -/
def execUndocFD (aa : Word) (s : State) : Host.Outcome State Fault Refusal :=
  undocumented 0xFD#8 (s.callTo aa) s

end Sys2Proof.Machine
end

