-- ==== Sys2Proof/Machine/Dispatch.lean ====
section
/-!
DEFINITION. The dispatch: one arm per constructor of `Instr`, each one call of the instruction's meaning.
-/

namespace Sys2Proof.Machine

def exec (i : Instr) (s : State) : Host.Outcome State Fault Refusal :=
  match i with
  | .movRR dst src => Sys2Proof.Machine.execMovRR dst src s
  | .movRM dst => Sys2Proof.Machine.execMovRM dst s
  | .movMR src => Sys2Proof.Machine.execMovMR src s
  | .mviR dst n => Sys2Proof.Machine.execMviR dst n s
  | .mviM n => Sys2Proof.Machine.execMviM n s
  | .lxi rp nn => Sys2Proof.Machine.execLxi rp nn s
  | .lda aa => Sys2Proof.Machine.execLda aa s
  | .sta aa => Sys2Proof.Machine.execSta aa s
  | .lhld aa => Sys2Proof.Machine.execLhld aa s
  | .shld aa => Sys2Proof.Machine.execShld aa s
  | .ldax rp => Sys2Proof.Machine.execLdax rp s
  | .stax rp => Sys2Proof.Machine.execStax rp s
  | .sphl => Sys2Proof.Machine.execSphl s
  | .xchg => Sys2Proof.Machine.execXchg s
  | .add o => Sys2Proof.Machine.execAdd o s
  | .adc o => Sys2Proof.Machine.execAdc o s
  | .sub o => Sys2Proof.Machine.execSub o s
  | .sbb o => Sys2Proof.Machine.execSbb o s
  | .ana o => Sys2Proof.Machine.execAna o s
  | .xra o => Sys2Proof.Machine.execXra o s
  | .ora o => Sys2Proof.Machine.execOra o s
  | .cmp o => Sys2Proof.Machine.execCmp o s
  | .adi n => Sys2Proof.Machine.execAdi n s
  | .aci n => Sys2Proof.Machine.execAci n s
  | .sui n => Sys2Proof.Machine.execSui n s
  | .sbi n => Sys2Proof.Machine.execSbi n s
  | .ani n => Sys2Proof.Machine.execAni n s
  | .xri n => Sys2Proof.Machine.execXri n s
  | .ori n => Sys2Proof.Machine.execOri n s
  | .cpi n => Sys2Proof.Machine.execCpi n s
  | .inr o => Sys2Proof.Machine.execInr o s
  | .dcr o => Sys2Proof.Machine.execDcr o s
  | .inx rp => Sys2Proof.Machine.execInx rp s
  | .dcx rp => Sys2Proof.Machine.execDcx rp s
  | .dad rp => Sys2Proof.Machine.execDad rp s
  | .daa => Sys2Proof.Machine.execDaa s
  | .cma => Sys2Proof.Machine.execCma s
  | .rlc => Sys2Proof.Machine.execRlc s
  | .rrc => Sys2Proof.Machine.execRrc s
  | .ral => Sys2Proof.Machine.execRal s
  | .rar => Sys2Proof.Machine.execRar s
  | .jmp aa => Sys2Proof.Machine.execJmp aa s
  | .jnz aa => Sys2Proof.Machine.execJnz aa s
  | .jz aa => Sys2Proof.Machine.execJz aa s
  | .jnc aa => Sys2Proof.Machine.execJnc aa s
  | .jc aa => Sys2Proof.Machine.execJc aa s
  | .jpo aa => Sys2Proof.Machine.execJpo aa s
  | .jpe aa => Sys2Proof.Machine.execJpe aa s
  | .jp aa => Sys2Proof.Machine.execJp aa s
  | .jm aa => Sys2Proof.Machine.execJm aa s
  | .pchl => Sys2Proof.Machine.execPchl s
  | .call aa => Sys2Proof.Machine.execCall aa s
  | .cnz aa => Sys2Proof.Machine.execCnz aa s
  | .cz aa => Sys2Proof.Machine.execCz aa s
  | .cnc aa => Sys2Proof.Machine.execCnc aa s
  | .cc aa => Sys2Proof.Machine.execCc aa s
  | .cpo aa => Sys2Proof.Machine.execCpo aa s
  | .cpe aa => Sys2Proof.Machine.execCpe aa s
  | .cp aa => Sys2Proof.Machine.execCp aa s
  | .cm aa => Sys2Proof.Machine.execCm aa s
  | .rst n => Sys2Proof.Machine.execRst n s
  | .ret => Sys2Proof.Machine.execRet s
  | .rnz => Sys2Proof.Machine.execRnz s
  | .rz => Sys2Proof.Machine.execRz s
  | .rnc => Sys2Proof.Machine.execRnc s
  | .rc => Sys2Proof.Machine.execRc s
  | .rpo => Sys2Proof.Machine.execRpo s
  | .rpe => Sys2Proof.Machine.execRpe s
  | .rp => Sys2Proof.Machine.execRp s
  | .rm => Sys2Proof.Machine.execRm s
  | .push rp => Sys2Proof.Machine.execPush rp s
  | .pushPsw => Sys2Proof.Machine.execPushPsw s
  | .pop rp => Sys2Proof.Machine.execPop rp s
  | .popPsw => Sys2Proof.Machine.execPopPsw s
  | .xthl => Sys2Proof.Machine.execXthl s
  | .stc => Sys2Proof.Machine.execStc s
  | .cmc => Sys2Proof.Machine.execCmc s
  | .inPort p => Sys2Proof.Machine.execIn p s
  | .outPort p => Sys2Proof.Machine.execOut p s
  | .nop => Sys2Proof.Machine.execNop s
  | .hlt => Sys2Proof.Machine.execHlt s
  | .di => Sys2Proof.Machine.execDi s
  | .ei => Sys2Proof.Machine.execEi s
  | .undoc08 => Sys2Proof.Machine.execUndoc08 s
  | .undoc10 => Sys2Proof.Machine.execUndoc10 s
  | .undoc18 => Sys2Proof.Machine.execUndoc18 s
  | .undoc20 => Sys2Proof.Machine.execUndoc20 s
  | .undoc28 => Sys2Proof.Machine.execUndoc28 s
  | .undoc30 => Sys2Proof.Machine.execUndoc30 s
  | .undoc38 => Sys2Proof.Machine.execUndoc38 s
  | .undocCB aa => Sys2Proof.Machine.execUndocCB aa s
  | .undocD9 => Sys2Proof.Machine.execUndocD9 s
  | .undocDD aa => Sys2Proof.Machine.execUndocDD aa s
  | .undocED aa => Sys2Proof.Machine.execUndocED aa s
  | .undocFD aa => Sys2Proof.Machine.execUndocFD aa s

end Sys2Proof.Machine
end

