-- ==== Sys2Proof/Machine/Interrupt.lean ====
section
/-!
DEFINITION. The step's two ways of running an instruction: the one at PC (R97) and the one an interrupting device
supplies (R276, R278).
-/

namespace Sys2Proof.Machine

/-- Interrupt acceptance (R276): with RST n the interrupt is taken; with any other byte R278 applies, which
`INT_INJECTED_INSTRUCTION` decides: refused by name with INTE and halted cleared, or executed with PC not incremented, its further bytes taken from
the environment. -/
def acceptInterrupt (i : StepInputs) (s : State) : Host.Outcome State Fault Refusal :=
  if isRst i.intInstr then .next (s.takeInterrupt (rstNumber i.intInstr))
  else
    match s.params.intInjected with
    | .rstOnly => .refused (.unsupportedInjectedInstruction i.intInstr s.acknowledge)
    | .any => exec (decodeBytes i.intInstr i.intByte2 i.intByte3) s.acknowledge

/-- The instruction at PC (R97): ei_delay is cleared, its bytes are fetched, then it is executed. -/
def runInstruction (s : State) : Host.Outcome State Fault Refusal :=
  let f := State.fetchInstr { s with eiDelay := false }
  exec f.1 f.2

/-- The input schedule whose next step sees neither a reset nor an interrupt request. -/
def quietNext : List StepInputs → List StepInputs
  | [] => []
  | i :: rest => { i with reset := false, int := false } :: rest

/-- Byte `v` placed at address `a` from outside the machine, so that a fetch there reads it: where the memory map
makes `a` a device, that one address becomes RAM. -/
def State.placeByte (s : State) (a : Word) (v : Byte) : State :=
  { s with
    mem := s.mem.write a.toNat v
    params := { s.params with memoryMap := match s.kindAt a with
      | .ram => s.params.memoryMap
      | .rom => s.params.memoryMap
      | .device => { base := a, size := 1, kind := .ram } :: s.params.memoryMap } }

end Sys2Proof.Machine
end

