-- ==== Sys2Proof/Machine/Step.lean ====
section
/-!
DEFINITION. One step of the machine (R97, R281), and placing an instruction where the next step fetches it.
-/

namespace Sys2Proof.Machine

/-- One step (R97). The order is R281's: RESET first, else an acceptable interrupt, else nothing while halted,
else the instruction at PC. The step consumes the inputs scheduled for it. -/
def step (s : State) : Host.Outcome State Fault Refusal :=
  let i := s.currentInputs
  let s' := s.consumeInputs
  if i.reset then .next s'.applyReset
  else if s.accepts i then acceptInterrupt i s'
  else if s.halted then .next s'
  else runInstruction s'

/-- The state with the instruction whose bits are `w` (numbered as the opcode table numbers them, the bits above
`nbits` zero) placed at PC, as three bytes, and with nothing in the way of its fetch: not halted, no reset and no
interrupt request at the next step. -/
def State.withFetchWord (s : State) (nbits w : Nat) : State :=
  let s0 := { s with halted := false, inputs := quietNext s.inputs }
  let s1 := s0.placeByte s.pc (tableByte nbits w 0)
  let s2 := s1.placeByte (s.pc + 1#16) (tableByte nbits w 1)
  s2.placeByte (s.pc + 2#16) (tableByte nbits w 2)

end Sys2Proof.Machine
end

