-- ==== Sys2Proof/Safety.lean ====
section
/-!
DEFINITION. The terms the statements use: the invariant of the machine, the end of a run (R318), what it means that a step
wrote exactly one register, one byte or one word, and the spec's tables of which instruction reads or writes what
(R23, R24(f), R30, R52). None of it is part of the step; each is written from the spec, apart from the meanings.
-/

namespace Sys2Proof.Machine

/-! ## The invariant and the end of a run -/

/-- What every step keeps: memory in its canonical form, and ei_delay set only where INTE is set and the CPU is not
halted (R34, R97: "A halted CPU never has ei_delay = 1"). -/
def State.Inv (s : State) : Prop :=
  s.mem.wf = true ∧ (s.eiDelay = true → s.inte = true ∧ s.halted = false)

/-- The end of a run (R318): halted with INTE = 0. -/
def State.ended (s : State) : Bool := s.halted && !s.inte

/-- The byte of memory at an address, whatever the memory map says of the address. -/
def State.peek (s : State) (x : Word) : Byte := s.mem.read x.toNat

/-- A fetch at this address reads memory: it is RAM or ROM (R64). -/
def State.readable (s : State) (x : Word) : Prop := s.kindAt x ≠ .device

/-- The number of 1 bits of a byte (R28). -/
def onesIn (v : Byte) : Nat := (List.range 8).countP (fun k => v.getLsbD k)

/-- `n` executions of one instruction, stopping at the first stop. -/
def execTimes (i : Instr) : Nat → State → Host.Outcome State Fault Refusal
  | 0, s => .next s
  | n + 1, s =>
    match exec i s with
    | .next t => execTimes i n t
    | .fault r => .fault r
    | .refused r => .refused r

/-- `n` steps of the machine, stopping at the first stop. -/
def stepTimes : Nat → State → Host.Outcome State Fault Refusal
  | 0, s => .next s
  | n + 1, s =>
    match step s with
    | .next t => stepTimes n t
    | .fault r => .fault r
    | .refused r => .refused r

/-- Two decimal digits packed in a byte, the tens high (R148). -/
def packedBcd (x : Nat) : Byte := BitVec.ofNat 8 (16 * (x / 10) + x % 10)

/-! ## What a state change amounts to -/

/-- From `s` to `t` nothing changed but general registers. -/
def OnlyRegs (s t : State) : Prop :=
  t = { s with a := t.a, b := t.b, c := t.c, d := t.d, e := t.e, h := t.h, l := t.l }

/-- From `s` to `t` nothing changed but the five flags. -/
def OnlyFlags (s t : State) : Prop :=
  t = { s with sf := t.sf, zf := t.zf, acf := t.acf, pf := t.pf, cyf := t.cyf }

/-- From `s` to `t` nothing changed but A and the five flags. -/
def OnlyAFlags (s t : State) : Prop :=
  t = { s with a := t.a, sf := t.sf, zf := t.zf, acf := t.acf, pf := t.pf, cyf := t.cyf }

/-- `t` is `s` with register `q` holding `v`, every other register and everything else unchanged. -/
def SetsReg (s t : State) (q : Reg) (v : Byte) : Prop :=
  t.getReg q = v ∧ (∀ q', q' ≠ q → t.getReg q' = s.getReg q') ∧ OnlyRegs s t

/-- `t` is `s` with pair `rp` (or SP) holding `v`: the pair's high register its high byte (R21), every other pair
and everything else unchanged. -/
def SetsPair (s t : State) (rp : Pair) (v : Word) : Prop :=
  t.getPair rp = v ∧ (∀ rp', rp' ≠ rp → t.getPair rp' = s.getPair rp') ∧
    t = { s with b := t.b, c := t.c, d := t.d, e := t.e, h := t.h, l := t.l, sp := t.sp }

/-- `t` is `s` after byte `v` is written to address `x` (R56, R64): every other byte of memory reads as before, and
the byte at `x` reads `v` where `x` is RAM; ROM is unchanged; a device's write is recorded and changes no memory.
Nothing else changes. -/
def StoresByte (s t : State) (x : Word) (v : Byte) : Prop :=
  t = { s with mem := t.mem, busWrites := t.busWrites } ∧
    (∀ y, y ≠ x → t.peek y = s.peek y) ∧
    (s.kindAt x = .ram → t.peek x = v ∧ t.busWrites = s.busWrites) ∧
    (s.kindAt x = .rom → t = s) ∧
    (s.kindAt x = .device → t.mem = s.mem ∧ t.busWrites = s.busWrites ++ [(x, v)])

/-- `t` is `s` after the word `v` is pushed (R225): its high byte to SP-1, then its low byte to SP-2, SP two lower. -/
def PushesWord (s t : State) (v : Word) : Prop :=
  ∃ m₁ m₂, StoresByte s m₁ (s.sp - 1#16) (v.extractLsb' 8 8) ∧
    StoresByte m₁ m₂ (s.sp - 2#16) (v.extractLsb' 0 8) ∧ t = { m₂ with sp := s.sp - 2#16 }

/-- `t` is `s` after a call of `target` (R192): PC pushed, then PC <- target. -/
def Calls (s t : State) (target : Word) : Prop :=
  ∃ m, PushesWord s m s.pc ∧ t = { m with pc := target }

/-- `t` is `s` after the word at the top of the stack is popped into PC (R202, R226). -/
def Returns (s t : State) : Prop :=
  t = { ((s.memRead s.sp).2.memRead (s.sp + 1#16)).2 with
        pc := ((s.memRead s.sp).2.memRead (s.sp + 1#16)).1 ++ (s.memRead s.sp).1, sp := s.sp + 2#16 }

/-- Z, S and P of `t` are those of the 8-bit result `v` (R28). -/
def ZspOf (t : State) (v : Byte) : Prop :=
  (t.zf = true ↔ v.toNat = 0) ∧ (t.sf = true ↔ 128 ≤ v.toNat) ∧ (t.pf = true ↔ onesIn v % 2 = 0)

/-- `t` is `s` after `A <- A + v + cin` with all five flags (R130). -/
def AddsToA (s t : State) (v : Byte) (cin : Bool) : Prop :=
  OnlyAFlags s t ∧
    t.a.toNat + 256 * t.cyf.toNat = s.a.toNat + v.toNat + cin.toNat ∧
    (t.acf = true ↔ 16 ≤ s.a.toNat % 16 + v.toNat % 16 + cin.toNat) ∧
    ZspOf t t.a

/-- AC of `t` after the subtraction `x - v - bin` (R131): 1 when there is NO borrow from bit 4, or, where
AC_ON_SUBTRACT is `borrow`, when there is one. -/
def SubtractAc (t : State) (x v : Byte) (bin : Bool) : Prop :=
  (t.params.acOnSubtract = .carryOfComplementAdd →
      (t.acf = true ↔ v.toNat % 16 + bin.toNat ≤ x.toNat % 16)) ∧
    (t.params.acOnSubtract = .borrow → (t.acf = true ↔ x.toNat % 16 < v.toNat % 16 + bin.toNat))

/-- `t` is `s` after `A <- A - v - bin` with all five flags (R131): CY is the borrow. -/
def SubtractsFromA (s t : State) (v : Byte) (bin : Bool) : Prop :=
  OnlyAFlags s t ∧
    t.a.toNat + v.toNat + bin.toNat = s.a.toNat + 256 * t.cyf.toNat ∧
    (t.cyf = true ↔ s.a.toNat < v.toNat + bin.toNat) ∧
    SubtractAc t s.a v bin ∧
    ZspOf t t.a

/-- `t` is `s` after the comparison of A with `v` (R140): the flags of the subtraction, A not written. -/
def ComparesA (s t : State) (v : Byte) : Prop :=
  OnlyFlags s t ∧
    (t.cyf = true ↔ s.a.toNat < v.toNat) ∧
    (t.zf = true ↔ s.a = v) ∧
    SubtractAc t s.a v false ∧
    ZspOf t (s.a - v)

/-! ## The stack's addresses -/

/-- The two addresses a push writes (R52, R71): SP-1, then SP-2. -/
def State.pushAddresses (s : State) : List Word := [s.sp - 1#16, s.sp - 2#16]

/-- The two addresses a pop reads (R52, R71): SP, then SP+1. -/
def State.popAddresses (s : State) : List Word := [s.sp, s.sp + 1#16]

end Sys2Proof.Machine

namespace Sys2Proof

open Sys2Proof.Machine

/-! ## The spec's tables -/

/-- The rows of R30's table of flag writers. -/
inductive FlagRow where
  | all | incDec | and | orXor | daa | dad | rotate | stc | cmc | popPsw | none
deriving DecidableEq, Repr

/-- The row of R30's table an instruction stands in; the undocumented values act as instructions of the last row. -/
def Instr.flagRow : Instr → FlagRow
  | .add _ | .adi _ | .adc _ | .aci _ | .sub _ | .sui _ | .sbb _ | .sbi _ | .cmp _ | .cpi _ => .all
  | .inr _ | .dcr _ => .incDec
  | .ana _ | .ani _ => .and
  | .ora _ | .ori _ | .xra _ | .xri _ => .orXor
  | .daa => .daa
  | .dad _ => .dad
  | .rlc | .rrc | .ral | .rar => .rotate
  | .stc => .stc
  | .cmc => .cmc
  | .popPsw => .popPsw
  | .movRR _ _ | .movRM _ | .movMR _ | .mviR _ _ | .mviM _ | .lxi _ _ | .lda _ | .sta _ | .lhld _ | .shld _
  | .ldax _ | .stax _ | .sphl | .xchg | .inx _ | .dcx _ | .cma => .none
  | .jmp _ | .jnz _ | .jz _ | .jnc _ | .jc _ | .jpo _ | .jpe _ | .jp _ | .jm _ | .pchl => .none
  | .call _ | .cnz _ | .cz _ | .cnc _ | .cc _ | .cpo _ | .cpe _ | .cp _ | .cm _ | .rst _ => .none
  | .ret | .rnz | .rz | .rnc | .rc | .rpo | .rpe | .rp | .rm => .none
  | .push _ | .pushPsw | .pop _ | .xthl | .inPort _ | .outPort _ | .nop | .hlt | .di | .ei => .none
  | .undoc08 | .undoc10 | .undoc18 | .undoc20 | .undoc28 | .undoc30 | .undoc38 | .undocCB _ | .undocD9
  | .undocDD _ | .undocED _ | .undocFD _ => .none

/-- What a row of R30's table says of the flags after the instruction, apart from the entries "w". -/
def FlagRow.holds (row : FlagRow) (s t : State) : Prop :=
  match row with
  | .all => True
  | .incDec => t.cyf = s.cyf
  | .and => t.cyf = false
  | .orXor => t.acf = false ∧ t.cyf = false
  | .daa => s.cyf = true → t.cyf = true
  | .dad => t.sf = s.sf ∧ t.zf = s.zf ∧ t.acf = s.acf ∧ t.pf = s.pf
  | .rotate => t.sf = s.sf ∧ t.zf = s.zf ∧ t.acf = s.acf ∧ t.pf = s.pf
  | .stc => t.sf = s.sf ∧ t.zf = s.zf ∧ t.acf = s.acf ∧ t.pf = s.pf ∧ t.cyf = true
  | .cmc => t.sf = s.sf ∧ t.zf = s.zf ∧ t.acf = s.acf ∧ t.pf = s.pf ∧ t.cyf = !s.cyf
  | .popPsw => True
  | .none => t.sf = s.sf ∧ t.zf = s.zf ∧ t.acf = s.acf ∧ t.pf = s.pf ∧ t.cyf = s.cyf

/-- The address of an M operand (R22), none for a register. -/
def Opd.addresses (o : Opd) (s : State) : List Word :=
  match o with
  | .reg _ => []
  | .m => [s.hl]

/-- The addresses an instruction stores to when it is executed in `s`, in order (R52, R71). -/
def Instr.stores (i : Instr) (s : State) : List Word :=
  match i with
  | .movMR _ | .mviM _ => [s.hl]
  | .sta aa => [aa]
  | .shld aa => [aa, aa + 1#16]
  | .stax q => [s.getPair q]
  | .inr o | .dcr o => o.addresses s
  | .call _ | .rst _ | .push _ | .pushPsw => s.pushAddresses
  | .cnz _ => if s.zf then [] else s.pushAddresses
  | .cz _ => if s.zf then s.pushAddresses else []
  | .cnc _ => if s.cyf then [] else s.pushAddresses
  | .cc _ => if s.cyf then s.pushAddresses else []
  | .cpo _ => if s.pf then [] else s.pushAddresses
  | .cpe _ => if s.pf then s.pushAddresses else []
  | .cp _ => if s.sf then [] else s.pushAddresses
  | .cm _ => if s.sf then s.pushAddresses else []
  | .xthl => [s.sp + 1#16, s.sp]
  | .undocDD _ | .undocED _ | .undocFD _ => s.pushAddresses
  | .movRR _ _ | .movRM _ | .mviR _ _ | .lxi _ _ | .lda _ | .lhld _ | .ldax _ | .sphl | .xchg => []
  | .add _ | .adc _ | .sub _ | .sbb _ | .ana _ | .xra _ | .ora _ | .cmp _ => []
  | .adi _ | .aci _ | .sui _ | .sbi _ | .ani _ | .xri _ | .ori _ | .cpi _ => []
  | .inx _ | .dcx _ | .dad _ | .daa | .cma | .rlc | .rrc | .ral | .rar => []
  | .jmp _ | .jnz _ | .jz _ | .jnc _ | .jc _ | .jpo _ | .jpe _ | .jp _ | .jm _ | .pchl => []
  | .ret | .rnz | .rz | .rnc | .rc | .rpo | .rpe | .rp | .rm => []
  | .pop _ | .popPsw | .stc | .cmc | .inPort _ | .outPort _ | .nop | .hlt | .di | .ei => []
  | .undoc08 | .undoc10 | .undoc18 | .undoc20 | .undoc28 | .undoc30 | .undoc38 | .undocCB _ | .undocD9 => []

/-- The data addresses an instruction reads when it is executed in `s`, in order (R52, R71). -/
def Instr.loads (i : Instr) (s : State) : List Word :=
  match i with
  | .movRM _ => [s.hl]
  | .lda aa => [aa]
  | .lhld aa => [aa, aa + 1#16]
  | .ldax q => [s.getPair q]
  | .add o | .adc o | .sub o | .sbb o | .ana o | .xra o | .ora o | .cmp o | .inr o | .dcr o => o.addresses s
  | .ret | .pop _ | .popPsw | .xthl | .undocD9 => s.popAddresses
  | .rnz => if s.zf then [] else s.popAddresses
  | .rz => if s.zf then s.popAddresses else []
  | .rnc => if s.cyf then [] else s.popAddresses
  | .rc => if s.cyf then s.popAddresses else []
  | .rpo => if s.pf then [] else s.popAddresses
  | .rpe => if s.pf then s.popAddresses else []
  | .rp => if s.sf then [] else s.popAddresses
  | .rm => if s.sf then s.popAddresses else []
  | .movRR _ _ | .movMR _ | .mviR _ _ | .mviM _ | .lxi _ _ | .sta _ | .shld _ | .stax _ | .sphl | .xchg => []
  | .adi _ | .aci _ | .sui _ | .sbi _ | .ani _ | .xri _ | .ori _ | .cpi _ => []
  | .inx _ | .dcx _ | .dad _ | .daa | .cma | .rlc | .rrc | .ral | .rar => []
  | .jmp _ | .jnz _ | .jz _ | .jnc _ | .jc _ | .jpo _ | .jpe _ | .jp _ | .jm _ | .pchl => []
  | .call _ | .cnz _ | .cz _ | .cnc _ | .cc _ | .cpo _ | .cpe _ | .cp _ | .cm _ | .rst _ => []
  | .push _ | .pushPsw | .stc | .cmc | .inPort _ | .outPort _ | .nop | .hlt | .di | .ei => []
  | .undoc08 | .undoc10 | .undoc18 | .undoc20 | .undoc28 | .undoc30 | .undoc38 | .undocCB _ | .undocDD _
  | .undocED _ | .undocFD _ => []

/-- The registers of a pair (R21); SP has none. -/
def Pair.regs : Pair → List Reg
  | .bc => [.b, .c]
  | .de => [.d, .e]
  | .hl => [.h, .l]
  | .sp => []

/-- The register an operand names, if it names one. -/
def Opd.regs : Opd → List Reg
  | .reg q => [q]
  | .m => []

/-- The general registers an instruction may write (R20, R21 and each instruction's rule). -/
def Instr.writesRegs : Instr → List Reg
  | .movRR dst _ | .movRM dst | .mviR dst _ => [dst]
  | .lxi q _ | .inx q | .dcx q | .pop q => q.regs
  | .lda _ | .ldax _ | .inPort _ => [.a]
  | .lhld _ | .xthl | .dad _ => [.h, .l]
  | .xchg => [.d, .e, .h, .l]
  | .add _ | .adc _ | .sub _ | .sbb _ | .ana _ | .xra _ | .ora _ => [.a]
  | .adi _ | .aci _ | .sui _ | .sbi _ | .ani _ | .xri _ | .ori _ => [.a]
  | .inr o | .dcr o => o.regs
  | .daa | .cma | .rlc | .rrc | .ral | .rar | .popPsw => [.a]
  | .movMR _ | .mviM _ | .sta _ | .shld _ | .stax _ | .sphl | .cmp _ | .cpi _ => []
  | .jmp _ | .jnz _ | .jz _ | .jnc _ | .jc _ | .jpo _ | .jpe _ | .jp _ | .jm _ | .pchl => []
  | .call _ | .cnz _ | .cz _ | .cnc _ | .cc _ | .cpo _ | .cpe _ | .cp _ | .cm _ | .rst _ => []
  | .ret | .rnz | .rz | .rnc | .rc | .rpo | .rpe | .rp | .rm => []
  | .push _ | .pushPsw | .stc | .cmc | .outPort _ | .nop | .hlt | .di | .ei => []
  | .undoc08 | .undoc10 | .undoc18 | .undoc20 | .undoc28 | .undoc30 | .undoc38 | .undocCB _ | .undocD9
  | .undocDD _ | .undocED _ | .undocFD _ => []

/-- The instructions that may write SP (R23), the undocumented values that call or return on silicon with them. -/
def Instr.writesSp : Instr → Bool
  | .lxi q _ | .inx q | .dcx q => decide (q = .sp)
  | .pop _ | .sphl | .push _ | .pushPsw | .popPsw => true
  | .call _ | .cnz _ | .cz _ | .cnc _ | .cc _ | .cpo _ | .cpe _ | .cp _ | .cm _ | .rst _ => true
  | .ret | .rnz | .rz | .rnc | .rc | .rpo | .rpe | .rp | .rm => true
  | .undocD9 | .undocDD _ | .undocED _ | .undocFD _ => true
  | .movRR _ _ | .movRM _ | .movMR _ | .mviR _ _ | .mviM _ | .lda _ | .sta _ | .lhld _ | .shld _ | .ldax _ | .stax _
  | .xchg => false
  | .add _ | .adc _ | .sub _ | .sbb _ | .ana _ | .xra _ | .ora _ | .cmp _ => false
  | .adi _ | .aci _ | .sui _ | .sbi _ | .ani _ | .xri _ | .ori _ | .cpi _ => false
  | .inr _ | .dcr _ | .dad _ | .daa | .cma | .rlc | .rrc | .ral | .rar => false
  | .jmp _ | .jnz _ | .jz _ | .jnc _ | .jc _ | .jpo _ | .jpe _ | .jp _ | .jm _ | .pchl => false
  | .xthl | .stc | .cmc | .inPort _ | .outPort _ | .nop | .hlt | .di | .ei => false
  | .undoc08 | .undoc10 | .undoc18 | .undoc20 | .undoc28 | .undoc30 | .undoc38 | .undocCB _ => false

/-- The instructions that may write PC beyond the fetch (R24(f)), the undocumented values that jump, call or return
on silicon with them. -/
def Instr.writesPc : Instr → Bool
  | .jmp _ | .jnz _ | .jz _ | .jnc _ | .jc _ | .jpo _ | .jpe _ | .jp _ | .jm _ | .pchl => true
  | .call _ | .cnz _ | .cz _ | .cnc _ | .cc _ | .cpo _ | .cpe _ | .cp _ | .cm _ | .rst _ => true
  | .ret | .rnz | .rz | .rnc | .rc | .rpo | .rpe | .rp | .rm => true
  | .undocCB _ | .undocD9 | .undocDD _ | .undocED _ | .undocFD _ => true
  | .movRR _ _ | .movRM _ | .movMR _ | .mviR _ _ | .mviM _ | .lxi _ _ | .lda _ | .sta _ | .lhld _ | .shld _
  | .ldax _ | .stax _ | .sphl | .xchg => false
  | .add _ | .adc _ | .sub _ | .sbb _ | .ana _ | .xra _ | .ora _ | .cmp _ => false
  | .adi _ | .aci _ | .sui _ | .sbi _ | .ani _ | .xri _ | .ori _ | .cpi _ => false
  | .inr _ | .dcr _ | .inx _ | .dcx _ | .dad _ | .daa | .cma | .rlc | .rrc | .ral | .rar => false
  | .push _ | .pushPsw | .pop _ | .popPsw | .xthl | .stc | .cmc | .inPort _ | .outPort _ | .nop | .hlt | .di
  | .ei => false
  | .undoc08 | .undoc10 | .undoc18 | .undoc20 | .undoc28 | .undoc30 | .undoc38 => false

/-- The twelve opcode values no listed instruction uses (R94). -/
def undocumentedValues : List Byte :=
  [0x08#8, 0x10#8, 0x18#8, 0x20#8, 0x28#8, 0x30#8, 0x38#8, 0xCB#8, 0xD9#8, 0xDD#8, 0xED#8, 0xFD#8]

/-- The values of byte 1 of length 3, as R83 lists them: LXI; SHLD LHLD STA LDA; JMP; CALL; Jcc; Ccc. -/
def threeByteOpcodes : List Byte :=
  [0x01#8, 0x11#8, 0x21#8, 0x31#8, 0x22#8, 0x2A#8, 0x32#8, 0x3A#8, 0xC3#8, 0xCD#8,
   0xC2#8, 0xCA#8, 0xD2#8, 0xDA#8, 0xE2#8, 0xEA#8, 0xF2#8, 0xFA#8,
   0xC4#8, 0xCC#8, 0xD4#8, 0xDC#8, 0xE4#8, 0xEC#8, 0xF4#8, 0xFC#8]

/-- The undocumented values that R83 gives length 3 where they act as on silicon. -/
def threeByteUndocumented : List Byte := [0xCB#8, 0xDD#8, 0xED#8, 0xFD#8]

/-- The values of byte 1 of length 2, as R83 lists them: MVI; the immediate ALU operations; OUT; IN. -/
def twoByteOpcodes : List Byte :=
  [0x06#8, 0x0E#8, 0x16#8, 0x1E#8, 0x26#8, 0x2E#8, 0x36#8, 0x3E#8,
   0xC6#8, 0xCE#8, 0xD6#8, 0xDE#8, 0xE6#8, 0xEE#8, 0xF6#8, 0xFE#8, 0xD3#8, 0xDB#8]

/-- How many bytes the CPU fetches of an instruction: all of them (R24(b)), but byte 1 alone of one of the twelve where
it is refused (R94: "PC has been advanced past byte 1 when the refusal is raised"). -/
def Instr.fetched (mode : UndocOpcodes) (i : Instr) : Nat :=
  if mode = .refuse ∧ (encode i).headD 0#8 ∈ undocumentedValues then 1 else (encode i).length

end Sys2Proof
end

