-- ==== Sys2Proof/Certificates/Slice0/Obligations.lean ====
section
/-!
DEFINITION. The statements for the provers. Each docstring names the rules of the spec it formalises; a clause that is the
model's choice says so and names its log entry.
-/

open Sys2Proof Sys2Proof.Machine

/-! ## Encoding -/

/-- R81, R91: decoding what the encoder wrote for a well-formed instruction gives it back, with the bytes after it
untouched, for every value of every operand. -/
def Obligations.DecodeInvertsEncode : Prop :=
  ∀ (i : Instr) (rest : List Byte), i.wf = true → decode (encode i ++ rest) = .ok (i, rest)

/-- R80, R93: whatever the decoder accepts is the encoding of the well-formed instruction it answers: no bit of the
bytes is dropped and no two encodings share a meaning. -/
def Obligations.EncodeInvertsDecode : Prop :=
  ∀ (bytes rest : List Byte) (i : Instr), decode bytes = .ok (i, rest) → i.wf = true ∧ encode i ++ rest = bytes

/-- R83, R93: every value of byte 1 is decoded, and R83's lists of opcodes say how many bytes are taken. R83 gives the
twelve undocumented values no length where they are refused; that the decoder takes the three bytes of CBh, DDh, EDh
and FDh whatever UNDOC_OPCODES is, is the model's (log entry 10). -/
def Obligations.EveryOpcodeDecodes : Prop :=
  ∀ (op b2 b3 : Byte) (rest : List Byte), ∃ i,
    decode (op :: b2 :: b3 :: rest) = .ok (i,
      if op ∈ threeByteOpcodes ∨ op ∈ threeByteUndocumented then rest
      else if op ∈ twoByteOpcodes then b3 :: rest
      else b2 :: b3 :: rest)

/-- R84, R85, R86, R90, R91: words written out from the spec's map decode to the instruction the map names; every register
code, every pair code and every condition code stands in one of them. -/
def Obligations.WrittenWordsDecode : Prop :=
  decodeBytes 0b01111000#8 0x00#8 0x00#8 = .movRR .a .b ∧
  decodeBytes 0b01001010#8 0x00#8 0x00#8 = .movRR .c .d ∧
  decodeBytes 0b01100101#8 0x00#8 0x00#8 = .movRR .h .l ∧
  decodeBytes 0b01110011#8 0x00#8 0x00#8 = .movMR .e ∧
  decodeBytes 0b00100001#8 0x03#8 0x01#8 = .lxi .hl 0x0103#16 ∧
  decodeBytes 0b00000011#8 0x00#8 0x00#8 = .inx .bc ∧
  decodeBytes 0b00011011#8 0x00#8 0x00#8 = .dcx .de ∧
  decodeBytes 0b00111001#8 0x00#8 0x00#8 = .dad .sp ∧
  decodeBytes 0b10011110#8 0x00#8 0x00#8 = .sbb .m ∧
  decodeBytes 0b11100110#8 0x0F#8 0x00#8 = .ani 0x0F#8 ∧
  decodeBytes 0b00011111#8 0x00#8 0x00#8 = .rar ∧
  decodeBytes 0b11000000#8 0x00#8 0x00#8 = .rnz ∧
  decodeBytes 0b11001100#8 0x34#8 0x12#8 = .cz 0x1234#16 ∧
  decodeBytes 0b11010000#8 0x00#8 0x00#8 = .rnc ∧
  decodeBytes 0b11011010#8 0x34#8 0x12#8 = .jc 0x1234#16 ∧
  decodeBytes 0b11100100#8 0x34#8 0x12#8 = .cpo 0x1234#16 ∧
  decodeBytes 0b11101000#8 0x00#8 0x00#8 = .rpe ∧
  decodeBytes 0b11110010#8 0x34#8 0x12#8 = .jp 0x1234#16 ∧
  decodeBytes 0b11111000#8 0x00#8 0x00#8 = .rm ∧
  decodeBytes 0b11011111#8 0x00#8 0x00#8 = .rst 3#3 ∧
  decodeBytes 0b11110101#8 0x00#8 0x00#8 = .pushPsw ∧
  decodeBytes 0b00111111#8 0x00#8 0x00#8 = .cmc ∧
  decodeBytes 0b11011011#8 0x10#8 0x00#8 = .inPort 0x10#8 ∧
  decodeBytes 0b01110110#8 0x00#8 0x00#8 = .hlt ∧
  decodeBytes 0b11001011#8 0x00#8 0x20#8 = .undocCB 0x2000#16

/-! ## Reset and the step -/

/-- R45: what RESET leaves in the state the machine starts in. -/
def Obligations.ResetHoldsTheSpecsValues : Prop :=
  State.reset.pc = 0#16 ∧ State.reset.inte = false ∧ State.reset.halted = false ∧ State.reset.eiDelay = false

/-- R300: a step with RESET asserted, in any state (halted, or with an interrupt pending), writes four values and
nothing else. Nothing is said of the schedule of inputs, which is the model's (log entry 7). -/
def Obligations.ResetInputWritesFourValues : Prop :=
  ∀ s : State, s.currentInputs.reset = true →
    ∃ t, step s = .next t ∧
      t = { s with pc := 0#16, inte := false, halted := false, eiDelay := false, inputs := t.inputs }

/-- R97, R24: with no reset, no acceptable interrupt and no halt, a step runs the instruction at PC; and where the
bytes there are memory (RAM or ROM) and decode to an instruction `i`, it is `exec i` of the state whose PC is past
the bytes fetched (all of `i`'s; byte 1 alone of an undocumented value that is refused, R94) and whose ei_delay is
cleared. The schedule of inputs, which is the model's choice (log entry 7), moves on by one. -/
def Obligations.StepRunsTheDecodedInstruction : Prop :=
  ∀ (s : State) (i : Instr) (rest : List Byte),
    s.currentInputs.reset = false → s.accepts s.currentInputs = false → s.halted = false →
    step s = runInstruction { s with inputs := s.inputs.tail } ∧
    ((∀ k, k < i.fetched s.params.undocOpcodes → s.readable (s.pc + BitVec.ofNat 16 k)) →
      decode [s.peek s.pc, s.peek (s.pc + 1#16), s.peek (s.pc + 2#16)] = .ok (i, rest) →
      step s = exec i { s with
        pc := s.pc + BitVec.ofNat 16 (i.fetched s.params.undocOpcodes), eiDelay := false, inputs := s.inputs.tail })

/-- R253, R34: EI sets INTE and closes exactly the boundary after it: the next step, whatever INT is then, runs
the instruction that follows; and after that instruction, unless it is another EI, ei_delay is 0, so that, unless it was
DI, the boundary accepts a request exactly when INT is high. The schedule of inputs is the model's choice (log entry
7). -/
def Obligations.EiHoldsOffOneBoundary : Prop :=
  ∀ s : State, s.currentInputs.reset = false → s.accepts s.currentInputs = false → s.halted = false →
    s.readable s.pc → s.peek s.pc = 0xFB#8 →
    ∃ t, step s = .next t ∧
      t = { s with pc := s.pc + 1#16, inte := true, eiDelay := true, inputs := s.inputs.tail } ∧
      (t.currentInputs.reset = false →
        step t = runInstruction { t with inputs := t.inputs.tail } ∧
        ∀ u, step t = .next u → t.readable t.pc → t.peek t.pc ≠ 0xFB#8 →
          u.eiDelay = false ∧ (t.peek t.pc ≠ 0xF3#8 → u.accepts u.currentInputs = u.currentInputs.int))

/-- R33, R251(a): while halted, a step with no reset and no acceptable interrupt changes nothing but the schedule of
inputs, which is the model's choice (log entry 7). -/
def Obligations.HaltedStepWaits : Prop :=
  ∀ s : State, s.halted = true → s.currentInputs.reset = false → s.accepts s.currentInputs = false →
    step s = .next { s with inputs := s.inputs.tail }

/-- R318, R251(c): halted with INTE = 0, whatever INT does, any number of steps without RESET changes nothing but the
schedule of inputs, which is the model's choice (log entry 7). -/
def Obligations.EndedRunStaysAsItIs : Prop :=
  ∀ (k : Nat) (s : State), s.ended = true → (∀ i ∈ s.inputs.take k, i.reset = false) →
    stepTimes k s = .next { s with inputs := s.inputs.drop k }

/-- R276, R277, R279: an interrupt whose device supplies RST n, accepted when the next instruction is at PC: the
state at the first instruction of the handler, complete. The pushed bytes are at SP-1 and SP-2, as R225 and R64
store them. The schedule of inputs is the model's choice (log entry 7). -/
def Obligations.InterruptEntersTheHandler : Prop :=
  ∀ (s : State) (n : BitVec 3), s.mem.wf = true →
    s.currentInputs.reset = false → s.accepts s.currentInputs = true →
    s.currentInputs.intInstr = opcode233 0b11#2 n 0b111#3 →
    ∃ t, step s = .next t ∧
      Calls { s with inte := false, halted := false, eiDelay := false, inputs := s.inputs.tail } t
        (BitVec.ofNat 16 (8 * n.toNat)) ∧
      t.pc.toNat = 8 * n.toNat ∧ t.sp = s.sp - 2#16 ∧
      t.inte = false ∧ t.halted = false ∧ t.eiDelay = false ∧
      t.a = s.a ∧ t.b = s.b ∧ t.c = s.c ∧ t.d = s.d ∧ t.e = s.e ∧ t.h = s.h ∧ t.l = s.l ∧
      t.sf = s.sf ∧ t.zf = s.zf ∧ t.acf = s.acf ∧ t.pf = s.pf ∧ t.cyf = s.cyf ∧
      (∀ x, x ≠ s.sp - 1#16 → x ≠ s.sp - 2#16 → t.peek x = s.peek x) ∧
      (s.kindAt (s.sp - 1#16) = .ram → t.peek (s.sp - 1#16) = s.pc.extractLsb' 8 8) ∧
      (s.kindAt (s.sp - 2#16) = .ram → t.peek (s.sp - 2#16) = s.pc.extractLsb' 0 8)

/-- R278 under `rst_only`: an acknowledge byte that is no RST n is refused by name, after INTE and halted have been
cleared (ei_delay is 0 already, R275) and nothing else has changed. The acknowledge byte and the schedule of inputs, which
moves on by one, are the model's choice (log entry 7). -/
def Obligations.NonRstIsRefusedUnderRstOnly : Prop :=
  ∀ s : State, s.currentInputs.reset = false → s.accepts s.currentInputs = true →
    s.params.intInjected = .rstOnly → s.currentInputs.intInstr &&& 0xC7#8 ≠ 0xC7#8 →
    step s = .refused (.unsupportedInjectedInstruction s.currentInputs.intInstr
      { s with inte := false, halted := false, inputs := s.inputs.tail })

/-- R278 under `any`: the instruction the device supplies is executed with INTE and halted cleared and PC NOT
incremented, its further bytes taken from the environment. How the open value `any` is completed, and that the
environment's bytes are scheduled, are the model's choices (log entries 3 and 7). -/
def Obligations.InjectedInstructionRunsWithPcUnmoved : Prop :=
  ∀ (s : State) (i : Instr) (rest : List Byte),
    s.currentInputs.reset = false → s.accepts s.currentInputs = true → s.params.intInjected = .any →
    decode [s.currentInputs.intInstr, s.currentInputs.intByte2, s.currentInputs.intByte3] = .ok (i, rest) →
    step s = exec i { s with inte := false, halted := false, eiDelay := false, inputs := s.inputs.tail }

/-- R271: a step is refused in two cases only, and only where the parameter says so. The level of INT and the acknowledge
byte come from the schedule of inputs, which is the model's choice (log entry 7). -/
def Obligations.StepRefusesOnlyWhereTheSpecDoes : Prop :=
  ∀ (s : State) (r : Refusal), step s = .refused r →
    (∃ op ∈ undocumentedValues, ∃ u, r = .undocumentedOpcode op u ∧ s.params.undocOpcodes = .refuse) ∨
    (∃ b u, r = .unsupportedInjectedInstruction b u ∧ b &&& 0xC7#8 ≠ 0xC7#8 ∧ s.params.intInjected = .rstOnly ∧
      s.inte = true ∧ s.eiDelay = false ∧ s.currentInputs.int = true)

/-- R270: no step faults, and every instruction of the opcode table completes; the undocumented values do where
UNDOC_OPCODES lets them (R94). -/
def Obligations.NothingFaultsAndEveryInstructionCompletes : Prop :=
  (∀ (s : State) (f : Fault), step s ≠ .fault f) ∧
  (∀ (i : Instr) (s : State), s.params.undocOpcodes = .asSilicon → ∃ t, exec i s = .next t) ∧
  (∀ (i : Instr) (s : State), (∀ op ∈ undocumentedValues, (encode i).head? ≠ some op) → ∃ t, exec i s = .next t)

/-! ## Invariants and whole-machine rules -/

/-- R34, R97, R50: every step keeps the invariant: memory in its canonical form, and ei_delay set only with INTE
set and the CPU not halted. -/
def Obligations.StepKeepsTheInvariant : Prop :=
  ∀ s t : State, s.Inv → step s = .next t → t.Inv

/-- The state after reset meets the invariant. -/
def Obligations.ResetMeetsTheInvariant : Prop := State.reset.Inv

/-- R64: a byte of ROM is never changed, by any step. -/
def Obligations.RomNeverChanges : Prop :=
  ∀ (s t : State) (x : Word), s.mem.wf = true → s.kindAt x = .rom → step s = .next t → t.peek x = s.peek x

/-- No step writes a parameter (`92_eei_decisions.md`: they are the platform's). -/
def Obligations.ParametersNeverChange : Prop :=
  ∀ s t : State, step s = .next t → t.params = s.params

/-- R30: for every instruction, the flags its row of the table leaves unchanged are unchanged, and the flags the
table gives a value have it. -/
def Obligations.FlagsAreWrittenAsTabulated : Prop :=
  ∀ (i : Instr) (s t : State), exec i s = .next t → i.flagRow.holds s t

/-- R52, R71: memory changes only at the addresses the tables give the instruction, for every instruction. -/
def Obligations.StoresOnlyAtTheTabulatedAddresses : Prop :=
  ∀ (i : Instr) (s t : State), s.mem.wf = true → exec i s = .next t →
    ∀ x, x ∉ i.stores s → t.peek x = s.peek x

/-- R20, R23, R24(f): registers, SP and PC change only by the instructions the rules name. -/
def Obligations.RegistersWrittenOnlyWhereSaid : Prop :=
  ∀ (i : Instr) (s t : State), exec i s = .next t →
    (∀ q, q ∉ i.writesRegs → t.getReg q = s.getReg q) ∧
    (i.writesSp = false → t.sp = s.sp) ∧ (i.writesPc = false → t.pc = s.pc)

/-- R32, R33, R34: INTE is written by EI and DI, halted by HLT, ei_delay by EI, and by no other instruction. -/
def Obligations.ControlStateWrittenOnlyWhereSaid : Prop :=
  ∀ (i : Instr) (s t : State), exec i s = .next t →
    (i ≠ .ei → i ≠ .di → t.inte = s.inte) ∧ (i ≠ .hlt → t.halted = s.halted) ∧ (i ≠ .ei → t.eiDelay = s.eiDelay)

/-- R53, R58, R64: only OUT extends the output history, only a store to a device is recorded, only IN and a load
from a device draw a byte from the environment, and no instruction touches the input schedule. -/
def Obligations.EnvironmentTouchedOnlyWhereSaid : Prop :=
  ∀ (i : Instr) (s t : State), exec i s = .next t →
    t.inputs = s.inputs ∧
    ((∀ p, i ≠ .outPort p) → t.outputs = s.outputs) ∧
    ((∀ x ∈ i.stores s, s.kindAt x ≠ .device) → t.busWrites = s.busWrites) ∧
    ((∀ p, i ≠ .inPort p) → (∀ x ∈ i.loads s, s.kindAt x ≠ .device) →
      t.envBytes = s.envBytes ∧ t.drawCount = s.drawCount)

/-! ## Memory -/

/-- R55, R64: a read of RAM or ROM returns the byte of memory and changes nothing; a read of an unmapped or device
address returns a draw: the next byte the environment schedules, else a free value (log entry 6). -/
def Obligations.ReadsByKindOfAddress : Prop :=
  ∀ (s : State) (x : Word),
    (s.kindAt x = .ram → s.memRead x = (s.peek x, s)) ∧
    (s.kindAt x = .rom → s.memRead x = (s.peek x, s)) ∧
    (s.kindAt x = .device → ∀ v rest, s.envBytes = v :: rest → s.memRead x = (v, { s with envBytes := rest })) ∧
    (s.kindAt x = .device → s.envBytes = [] →
      s.memRead x = (Config.freeByte s.drawCount, { s with drawCount := s.drawCount + 1 }))

/-- R56, R64, R66(a), R69: what a write does, for every kind of address, and the next read of a RAM address, a data
read or a fetch, returns the byte written. That memory is a list in a canonical form, which the write keeps, is the
model's choice (log entry 5). -/
def Obligations.WritesAreReadBack : Prop :=
  ∀ (s : State) (x : Word) (v : Byte), s.mem.wf = true →
    StoresByte s (s.memWrite x v) x v ∧ (s.memWrite x v).mem.wf = true ∧
    (s.kindAt x = .ram → ((s.memWrite x v).memRead x).1 = v ∧
      ∀ t : State, t = { s.memWrite x v with pc := x } → t.fetch8.1 = v)

/-- R59(b), R118, R119: LHLD reads back the pair SHLD stored, at any address, wrapping modulo 65536. -/
def Obligations.LhldReadsWhatShldStored : Prop :=
  ∀ (s : State) (aa : Word) (x y : Byte), s.mem.wf = true → s.kindAt aa = .ram → s.kindAt (aa + 1#16) = .ram →
    ∃ t u, exec (.shld aa) s = .next t ∧ exec (.lhld aa) { t with h := x, l := y } = .next u ∧
      u.h = s.h ∧ u.l = s.l ∧ t.peek aa = s.l ∧ t.peek (aa + 1#16) = s.h

/-! ## Transfer -/

/-- R110, R113, R115, R122, R123: the transfers among registers and from immediates, each with its frame. -/
def Obligations.RegisterTransfers : Prop :=
  ∀ s : State,
    (∀ dst src, ∃ t, exec (.movRR dst src) s = .next t ∧ SetsReg s t dst (s.getReg src)) ∧
    (∀ dst n, ∃ t, exec (.mviR dst n) s = .next t ∧ SetsReg s t dst n) ∧
    (∀ rp nn, ∃ t, exec (.lxi rp nn) s = .next t ∧ SetsPair s t rp nn) ∧
    exec .sphl s = .next { s with sp := s.h ++ s.l } ∧
    exec .xchg s = .next { s with d := s.h, e := s.l, h := s.d, l := s.e } ∧
    (∀ dst src : Reg, encode (.movRR dst src) = [0b01#2 ++ dst.code ++ src.code]) ∧
    (∀ (dst : Reg) n, encode (.mviR dst n) = [0b00#2 ++ dst.code ++ 0b110#3, n]) ∧
    (∀ (rp : Pair) nn, encode (.lxi rp nn) = [0b00#2 ++ rp.code ++ 0b0001#4, nn.extractLsb' 0 8, nn.extractLsb' 8 8]) ∧
    encode .sphl = [0xF9#8] ∧ encode .xchg = [0xEB#8]

/-- R111, R116, R118, R120: the loads. Each reads its address as `memRead` does (for RAM and ROM the byte there,
for a device a draw), and changes the loaded registers only. The address of MOV r,M is HL before the write. -/
def Obligations.MemoryLoads : Prop :=
  ∀ s : State,
    (∀ dst, ∃ t, exec (.movRM dst) s = .next t ∧
      SetsReg (s.memRead (s.h ++ s.l)).2 t dst (s.memRead (s.h ++ s.l)).1) ∧
    (∀ aa, exec (.lda aa) s = .next { (s.memRead aa).2 with a := (s.memRead aa).1 }) ∧
    exec (.ldax .bc) s = .next { (s.memRead (s.b ++ s.c)).2 with a := (s.memRead (s.b ++ s.c)).1 } ∧
    exec (.ldax .de) s = .next { (s.memRead (s.d ++ s.e)).2 with a := (s.memRead (s.d ++ s.e)).1 } ∧
    (∀ aa, ∃ t, exec (.lhld aa) s = .next t ∧
      t = { ((s.memRead aa).2.memRead (aa + 1#16)).2 with
            l := (s.memRead aa).1, h := ((s.memRead aa).2.memRead (aa + 1#16)).1 }) ∧
    (∀ dst : Reg, encode (.movRM dst) = [0b01#2 ++ dst.code ++ 0b110#3]) ∧
    (∀ aa, encode (.lda aa) = [0x3A#8, aa.extractLsb' 0 8, aa.extractLsb' 8 8]) ∧
    encode (.ldax .bc) = [0x0A#8] ∧ encode (.ldax .de) = [0x1A#8] ∧
    (∀ aa, encode (.lhld aa) = [0x2A#8, aa.extractLsb' 0 8, aa.extractLsb' 8 8])

/-- R112, R114, R117, R119, R121: the stores, each with its address computed as the rule computes it and every
other byte of memory unchanged; and the slot of MOV M,M, 76h, which is HLT. -/
def Obligations.MemoryStores : Prop :=
  ∀ s : State, s.mem.wf = true →
    (∀ src, ∃ t, exec (.movMR src) s = .next t ∧ StoresByte s t (s.h ++ s.l) (s.getReg src)) ∧
    (∀ n, ∃ t, exec (.mviM n) s = .next t ∧ StoresByte s t (s.h ++ s.l) n) ∧
    (∀ aa, ∃ t, exec (.sta aa) s = .next t ∧ StoresByte s t aa s.a) ∧
    (∃ t, exec (.stax .bc) s = .next t ∧ StoresByte s t (s.b ++ s.c) s.a) ∧
    (∃ t, exec (.stax .de) s = .next t ∧ StoresByte s t (s.d ++ s.e) s.a) ∧
    (∀ aa, ∃ m t, exec (.shld aa) s = .next t ∧ StoresByte s m aa s.l ∧ StoresByte m t (aa + 1#16) s.h) ∧
    (∀ src : Reg, encode (.movMR src) = [0b01110#5 ++ src.code]) ∧ (∀ n, encode (.mviM n) = [0x36#8, n]) ∧
    (∀ b2 b3, decodeBytes 0x76#8 b2 b3 = .hlt) ∧
    (∀ aa, encode (.sta aa) = [0x32#8, aa.extractLsb' 0 8, aa.extractLsb' 8 8]) ∧
    encode (.stax .bc) = [0x02#8] ∧ encode (.stax .de) = [0x12#8] ∧
    (∀ aa, encode (.shld aa) = [0x22#8, aa.extractLsb' 0 8, aa.extractLsb' 8 8])

/-! ## Arithmetic -/

/-- R130, R132 to R135: the additions. CY read is the value before the instruction. -/
def Obligations.AdditionResults : Prop :=
  ∀ s : State,
    (∀ o, ∃ t, exec (.add o) s = .next t ∧ AddsToA (s.readOpd o).2 t (s.readOpd o).1 false) ∧
    (∀ n, ∃ t, exec (.adi n) s = .next t ∧ AddsToA s t n false) ∧
    (∀ o, ∃ t, exec (.adc o) s = .next t ∧ AddsToA (s.readOpd o).2 t (s.readOpd o).1 s.cyf) ∧
    (∀ n, ∃ t, exec (.aci n) s = .next t ∧ AddsToA s t n s.cyf) ∧
    (∀ o : Opd, encode (.add o) = [0b10000#5 ++ o.code]) ∧ (∀ n, encode (.adi n) = [0xC6#8, n]) ∧
    (∀ o : Opd, encode (.adc o) = [0b10001#5 ++ o.code]) ∧ (∀ n, encode (.aci n) = [0xCE#8, n])

/-- R131, R136 to R139: the subtractions, by the rule's "equivalently" clause: CY is 1 exactly when A is below the
subtrahend plus the borrow, AC exactly when there is no borrow from bit 4 (or as AC_ON_SUBTRACT says). -/
def Obligations.SubtractionResults : Prop :=
  ∀ s : State,
    (∀ o, ∃ t, exec (.sub o) s = .next t ∧ SubtractsFromA (s.readOpd o).2 t (s.readOpd o).1 false) ∧
    (∀ n, ∃ t, exec (.sui n) s = .next t ∧ SubtractsFromA s t n false) ∧
    (∀ o, ∃ t, exec (.sbb o) s = .next t ∧ SubtractsFromA (s.readOpd o).2 t (s.readOpd o).1 s.cyf) ∧
    (∀ n, ∃ t, exec (.sbi n) s = .next t ∧ SubtractsFromA s t n s.cyf) ∧
    (∀ o : Opd, encode (.sub o) = [0b10010#5 ++ o.code]) ∧ (∀ n, encode (.sui n) = [0xD6#8, n]) ∧
    (∀ o : Opd, encode (.sbb o) = [0b10011#5 ++ o.code]) ∧ (∀ n, encode (.sbi n) = [0xDE#8, n])

/-- R140, R141: the compares: Z exactly when A equals the operand, CY exactly when A is below it, A unchanged. -/
def Obligations.CompareResults : Prop :=
  ∀ s : State,
    (∀ o, ∃ t, exec (.cmp o) s = .next t ∧ ComparesA (s.readOpd o).2 t (s.readOpd o).1) ∧
    (∀ n, ∃ t, exec (.cpi n) s = .next t ∧ ComparesA s t n) ∧
    (∀ o : Opd, encode (.cmp o) = [0b10111#5 ++ o.code]) ∧ (∀ n, encode (.cpi n) = [0xFE#8, n])

/-- R8, R22: what an operand r reads: a register's value, or the byte at HL. -/
def Obligations.OperandReads : Prop :=
  ∀ s : State, s.readOpd (.reg .b) = (s.b, s) ∧ s.readOpd (.reg .c) = (s.c, s) ∧ s.readOpd (.reg .d) = (s.d, s) ∧
    s.readOpd (.reg .e) = (s.e, s) ∧ s.readOpd (.reg .h) = (s.h, s) ∧ s.readOpd (.reg .l) = (s.l, s) ∧
    s.readOpd (.reg .a) = (s.a, s) ∧ s.readOpd .m = s.memRead (s.h ++ s.l)

/-- R142, R143: INR and DCR. AC is told from the old value: INR carries out of bit 3 exactly when the low digit was
15, DCR borrows from bit 4 exactly when it was 0; CY keeps its value. -/
def Obligations.IncrementDecrementResults : Prop :=
  ∀ (s : State) (o : Opd), s.mem.wf = true →
    (∃ t u, exec (.inr o) s = .next t ∧
      (match o with
        | .reg q => SetsReg (s.readOpd o).2 u q ((s.readOpd o).1 + 1#8)
        | .m => StoresByte (s.readOpd o).2 u (s.h ++ s.l) ((s.readOpd o).1 + 1#8)) ∧
      OnlyFlags u t ∧ t.cyf = s.cyf ∧ ZspOf t ((s.readOpd o).1 + 1#8) ∧
      (t.acf = true ↔ (s.readOpd o).1.toNat % 16 = 15)) ∧
    (∃ t u, exec (.dcr o) s = .next t ∧
      (match o with
        | .reg q => SetsReg (s.readOpd o).2 u q ((s.readOpd o).1 - 1#8)
        | .m => StoresByte (s.readOpd o).2 u (s.h ++ s.l) ((s.readOpd o).1 - 1#8)) ∧
      OnlyFlags u t ∧ t.cyf = s.cyf ∧ ZspOf t ((s.readOpd o).1 - 1#8) ∧
      SubtractAc t (s.readOpd o).1 1#8 false) ∧
    encode (.inr o) = [0b00#2 ++ o.code ++ 0b100#3] ∧ encode (.dcr o) = [0b00#2 ++ o.code ++ 0b101#3]

/-- R144, R145, R146: the 16-bit arithmetic. INX and DCX write no flag; DAD writes HL and CY only. -/
def Obligations.PairArithmeticResults : Prop :=
  ∀ (s : State) (rp : Pair),
    (∃ t, exec (.inx rp) s = .next t ∧ SetsPair s t rp (s.getPair rp + 1#16)) ∧
    (∃ t, exec (.dcx rp) s = .next t ∧ SetsPair s t rp (s.getPair rp - 1#16)) ∧
    (∃ t, exec (.dad rp) s = .next t ∧ t = { s with h := t.h, l := t.l, cyf := t.cyf } ∧
      (t.h ++ t.l).toNat + 65536 * t.cyf.toNat = (s.h ++ s.l).toNat + (s.getPair rp).toNat) ∧
    encode (.inx rp) = [0b00#2 ++ rp.code ++ 0b0011#4] ∧ encode (.dcx rp) = [0b00#2 ++ rp.code ++ 0b1011#4] ∧
    encode (.dad rp) = [0b00#2 ++ rp.code ++ 0b1001#4]

/-- R147: DAA on every A, AC and CY: 06h is added when the low digit exceeds 9 or AC is set, 60h when A exceeds 99h
or CY is set; AC becomes the carry out of bit 3, CY is set or keeps its value. -/
def Obligations.DecimalAdjustResult : Prop :=
  ∀ s : State, ∃ t, exec .daa s = .next t ∧ OnlyAFlags s t ∧
    t.a = s.a + (if s.acf = true ∨ 9 < s.a.toNat % 16 then 0x06#8 else 0x00#8)
      + (if s.cyf = true ∨ 0x99 < s.a.toNat then 0x60#8 else 0x00#8) ∧
    (t.cyf = true ↔ s.cyf = true ∨ 0x99 < s.a.toNat) ∧
    (t.acf = true ↔ 10 ≤ s.a.toNat % 16) ∧
    ZspOf t t.a ∧ encode .daa = [0x27#8]

/-- R147, R148: ACI (or ADI, with CY clear) of two packed decimal bytes, then DAA, is decimal addition with carry:
what DAA is for. -/
def Obligations.DecimalAdditionIsCorrect : Prop :=
  ∀ (s : State) (x y : Nat), x < 100 → y < 100 → s.a = packedBcd x →
    ∃ t u, exec (.aci (packedBcd y)) s = .next t ∧ exec .daa t = .next u ∧
      u.a = packedBcd ((x + y + s.cyf.toNat) % 100) ∧ (u.cyf = true ↔ 100 ≤ x + y + s.cyf.toNat)

/-! ## Logical and rotate -/

/-- R160 to R166: the logical instructions bit by bit, with their flags: CY <- 0, AC by AC_ON_AND for the AND and 0
for the others, none for CMA. -/
def Obligations.LogicalResults : Prop :=
  ∀ s : State,
    (∀ o, ∃ t, exec (.ana o) s = .next t ∧ OnlyAFlags (s.readOpd o).2 t ∧ ZspOf t t.a ∧ t.cyf = false ∧
      (∀ k, t.a.getLsbD k = (s.a.getLsbD k && (s.readOpd o).1.getLsbD k)) ∧
      t.acf = (match s.params.acOnAnd with
        | .orBit3 => s.a.getLsbD 3 || (s.readOpd o).1.getLsbD 3 | .one => true | .zero => false)) ∧
    (∀ n, ∃ t, exec (.ani n) s = .next t ∧ OnlyAFlags s t ∧ ZspOf t t.a ∧ t.cyf = false ∧
      (∀ k, t.a.getLsbD k = (s.a.getLsbD k && n.getLsbD k)) ∧
      t.acf = (match s.params.acOnAnd with
        | .orBit3 => s.a.getLsbD 3 || n.getLsbD 3 | .one => true | .zero => false)) ∧
    (∀ o, ∃ t, exec (.ora o) s = .next t ∧ OnlyAFlags (s.readOpd o).2 t ∧ ZspOf t t.a ∧ t.cyf = false ∧
      t.acf = false ∧ ∀ k, t.a.getLsbD k = (s.a.getLsbD k || (s.readOpd o).1.getLsbD k)) ∧
    (∀ n, ∃ t, exec (.ori n) s = .next t ∧ OnlyAFlags s t ∧ ZspOf t t.a ∧ t.cyf = false ∧
      t.acf = false ∧ ∀ k, t.a.getLsbD k = (s.a.getLsbD k || n.getLsbD k)) ∧
    (∀ o, ∃ t, exec (.xra o) s = .next t ∧ OnlyAFlags (s.readOpd o).2 t ∧ ZspOf t t.a ∧ t.cyf = false ∧
      t.acf = false ∧ ∀ k, t.a.getLsbD k = (s.a.getLsbD k ^^ (s.readOpd o).1.getLsbD k)) ∧
    (∀ n, ∃ t, exec (.xri n) s = .next t ∧ OnlyAFlags s t ∧ ZspOf t t.a ∧ t.cyf = false ∧
      t.acf = false ∧ ∀ k, t.a.getLsbD k = (s.a.getLsbD k ^^ n.getLsbD k)) ∧
    (∃ t, exec .cma s = .next t ∧ t = { s with a := t.a } ∧ ∀ k, k < 8 → t.a.getLsbD k = !s.a.getLsbD k) ∧
    (∀ o : Opd, encode (.ana o) = [0b10100#5 ++ o.code]) ∧ (∀ n, encode (.ani n) = [0xE6#8, n]) ∧
    (∀ o : Opd, encode (.ora o) = [0b10110#5 ++ o.code]) ∧ (∀ n, encode (.ori n) = [0xF6#8, n]) ∧
    (∀ o : Opd, encode (.xra o) = [0b10101#5 ++ o.code]) ∧ (∀ n, encode (.xri n) = [0xEE#8, n]) ∧
    encode .cma = [0x2F#8]

/-- R170 to R174 with ROTATE_READING = intel: each rotate bit by bit, A and CY only. -/
def Obligations.RotateResults : Prop :=
  ∀ s : State, s.params.rotateReading = .intel →
    (∃ t, exec .rlc s = .next t ∧ t = { s with a := t.a, cyf := s.a.getLsbD 7 } ∧
      t.a.getLsbD 0 = s.a.getLsbD 7 ∧ ∀ k, k < 7 → t.a.getLsbD (k + 1) = s.a.getLsbD k) ∧
    (∃ t, exec .rrc s = .next t ∧ t = { s with a := t.a, cyf := s.a.getLsbD 0 } ∧
      t.a.getLsbD 7 = s.a.getLsbD 0 ∧ ∀ k, k < 7 → t.a.getLsbD k = s.a.getLsbD (k + 1)) ∧
    (∃ t, exec .ral s = .next t ∧ t = { s with a := t.a, cyf := s.a.getLsbD 7 } ∧
      t.a.getLsbD 0 = s.cyf ∧ ∀ k, k < 7 → t.a.getLsbD (k + 1) = s.a.getLsbD k) ∧
    (∃ t, exec .rar s = .next t ∧ t = { s with a := t.a, cyf := s.a.getLsbD 0 } ∧
      t.a.getLsbD 7 = s.cyf ∧ ∀ k, k < 7 → t.a.getLsbD k = s.a.getLsbD (k + 1)) ∧
    encode .rlc = [0x07#8] ∧ encode .rrc = [0x0F#8] ∧ encode .ral = [0x17#8] ∧ encode .rar = [0x1F#8]

/-- R170: under ROTATE_READING = source_literal the operations of RLC and RAL, and of RRC and RAR, change places. -/
def Obligations.LiteralReadingSwapsTheRotates : Prop :=
  ∀ s t : State, s.params.rotateReading = .intel →
    t = { s with params := { s.params with rotateReading := .sourceLiteral } } →
    ∃ u₁ u₂ u₃ u₄, exec .rlc s = .next u₁ ∧ exec .rrc s = .next u₂ ∧ exec .ral s = .next u₃ ∧
      exec .rar s = .next u₄ ∧
      exec .rlc t = .next { u₃ with params := t.params } ∧ exec .rrc t = .next { u₄ with params := t.params } ∧
      exec .ral t = .next { u₁ with params := t.params } ∧ exec .rar t = .next { u₂ with params := t.params }

/-- R171 to R174: eight 8-bit rotates restore A, nine rotates through carry restore A and CY. -/
def Obligations.RepeatedRotatesRestore : Prop :=
  ∀ s : State, s.params.rotateReading = .intel →
    (∃ t, execTimes .rlc 8 s = .next t ∧ t = { s with cyf := t.cyf }) ∧
    (∃ t, execTimes .rrc 8 s = .next t ∧ t = { s with cyf := t.cyf }) ∧
    execTimes .ral 9 s = .next s ∧ execTimes .rar 9 s = .next s

/-! ## Branch -/

/-- R180, R182 to R191: the jumps; where the condition does not hold nothing changes beyond the fetch. -/
def Obligations.JumpResults : Prop :=
  ∀ (s : State) (aa : Word),
    exec (.jmp aa) s = .next { s with pc := aa } ∧
    exec (.jnz aa) s = .next { s with pc := if s.zf = false then aa else s.pc } ∧
    exec (.jz aa) s = .next { s with pc := if s.zf = true then aa else s.pc } ∧
    exec (.jnc aa) s = .next { s with pc := if s.cyf = false then aa else s.pc } ∧
    exec (.jc aa) s = .next { s with pc := if s.cyf = true then aa else s.pc } ∧
    exec (.jpo aa) s = .next { s with pc := if s.pf = false then aa else s.pc } ∧
    exec (.jpe aa) s = .next { s with pc := if s.pf = true then aa else s.pc } ∧
    exec (.jp aa) s = .next { s with pc := if s.sf = false then aa else s.pc } ∧
    exec (.jm aa) s = .next { s with pc := if s.sf = true then aa else s.pc } ∧
    exec .pchl s = .next { s with pc := s.h ++ s.l } ∧
    encode (.jmp aa) = [0xC3#8, aa.extractLsb' 0 8, aa.extractLsb' 8 8] ∧
    encode (.jnz aa) = [0xC2#8, aa.extractLsb' 0 8, aa.extractLsb' 8 8] ∧
    encode (.jz aa) = [0xCA#8, aa.extractLsb' 0 8, aa.extractLsb' 8 8] ∧
    encode (.jnc aa) = [0xD2#8, aa.extractLsb' 0 8, aa.extractLsb' 8 8] ∧
    encode (.jc aa) = [0xDA#8, aa.extractLsb' 0 8, aa.extractLsb' 8 8] ∧
    encode (.jpo aa) = [0xE2#8, aa.extractLsb' 0 8, aa.extractLsb' 8 8] ∧
    encode (.jpe aa) = [0xEA#8, aa.extractLsb' 0 8, aa.extractLsb' 8 8] ∧
    encode (.jp aa) = [0xF2#8, aa.extractLsb' 0 8, aa.extractLsb' 8 8] ∧
    encode (.jm aa) = [0xFA#8, aa.extractLsb' 0 8, aa.extractLsb' 8 8] ∧ encode .pchl = [0xE9#8]

/-- R180, R192 to R200: the calls push the address of the next instruction; not taken, nothing changes beyond the
fetch. -/
def Obligations.CallResults : Prop :=
  ∀ (s : State) (aa : Word), s.mem.wf = true →
    (∃ t, exec (.call aa) s = .next t ∧ Calls s t aa) ∧
    (∃ t, exec (.cnz aa) s = .next t ∧ (if s.zf = false then Calls s t aa else t = s)) ∧
    (∃ t, exec (.cz aa) s = .next t ∧ (if s.zf = true then Calls s t aa else t = s)) ∧
    (∃ t, exec (.cnc aa) s = .next t ∧ (if s.cyf = false then Calls s t aa else t = s)) ∧
    (∃ t, exec (.cc aa) s = .next t ∧ (if s.cyf = true then Calls s t aa else t = s)) ∧
    (∃ t, exec (.cpo aa) s = .next t ∧ (if s.pf = false then Calls s t aa else t = s)) ∧
    (∃ t, exec (.cpe aa) s = .next t ∧ (if s.pf = true then Calls s t aa else t = s)) ∧
    (∃ t, exec (.cp aa) s = .next t ∧ (if s.sf = false then Calls s t aa else t = s)) ∧
    (∃ t, exec (.cm aa) s = .next t ∧ (if s.sf = true then Calls s t aa else t = s)) ∧
    encode (.call aa) = [0xCD#8, aa.extractLsb' 0 8, aa.extractLsb' 8 8] ∧
    encode (.cnz aa) = [0xC4#8, aa.extractLsb' 0 8, aa.extractLsb' 8 8] ∧
    encode (.cz aa) = [0xCC#8, aa.extractLsb' 0 8, aa.extractLsb' 8 8] ∧
    encode (.cnc aa) = [0xD4#8, aa.extractLsb' 0 8, aa.extractLsb' 8 8] ∧
    encode (.cc aa) = [0xDC#8, aa.extractLsb' 0 8, aa.extractLsb' 8 8] ∧
    encode (.cpo aa) = [0xE4#8, aa.extractLsb' 0 8, aa.extractLsb' 8 8] ∧
    encode (.cpe aa) = [0xEC#8, aa.extractLsb' 0 8, aa.extractLsb' 8 8] ∧
    encode (.cp aa) = [0xF4#8, aa.extractLsb' 0 8, aa.extractLsb' 8 8] ∧
    encode (.cm aa) = [0xFC#8, aa.extractLsb' 0 8, aa.extractLsb' 8 8]

/-- R201: RST n calls 8*n, a value from 0000h to 0038h. -/
def Obligations.RestartResults : Prop :=
  ∀ (s : State) (n : BitVec 3), s.mem.wf = true →
    ∃ t, exec (.rst n) s = .next t ∧ Calls s t (BitVec.ofNat 16 (8 * n.toNat)) ∧ t.pc.toNat = 8 * n.toNat ∧
      encode (.rst n) = [0b11#2 ++ n ++ 0b111#3]

/-- R180, R202 to R210: the returns pop PC and restore nothing else; not taken, nothing changes beyond the fetch. -/
def Obligations.ReturnResults : Prop :=
  ∀ s : State,
    (∃ t, exec .ret s = .next t ∧ Returns s t) ∧
    (∃ t, exec .rnz s = .next t ∧ (if s.zf = false then Returns s t else t = s)) ∧
    (∃ t, exec .rz s = .next t ∧ (if s.zf = true then Returns s t else t = s)) ∧
    (∃ t, exec .rnc s = .next t ∧ (if s.cyf = false then Returns s t else t = s)) ∧
    (∃ t, exec .rc s = .next t ∧ (if s.cyf = true then Returns s t else t = s)) ∧
    (∃ t, exec .rpo s = .next t ∧ (if s.pf = false then Returns s t else t = s)) ∧
    (∃ t, exec .rpe s = .next t ∧ (if s.pf = true then Returns s t else t = s)) ∧
    (∃ t, exec .rp s = .next t ∧ (if s.sf = false then Returns s t else t = s)) ∧
    (∃ t, exec .rm s = .next t ∧ (if s.sf = true then Returns s t else t = s)) ∧
    encode .ret = [0xC9#8] ∧ encode .rnz = [0xC0#8] ∧ encode .rz = [0xC8#8] ∧ encode .rnc = [0xD0#8] ∧
    encode .rc = [0xD8#8] ∧ encode .rpo = [0xE0#8] ∧ encode .rpe = [0xE8#8] ∧ encode .rp = [0xF0#8] ∧
    encode .rm = [0xF8#8]

/-- R192, R202, R211: RET after CALL continues at the instruction after the CALL with SP as before it, wherever the
stack is, wrap-around included. -/
def Obligations.ReturnUndoesCall : Prop :=
  ∀ (s : State) (aa : Word), s.mem.wf = true →
    s.kindAt (s.sp - 1#16) = .ram → s.kindAt (s.sp - 2#16) = .ram →
    ∃ t u, exec (.call aa) s = .next t ∧ t.pc = aa ∧ exec .ret t = .next u ∧ u = { s with mem := u.mem }

/-! ## Stack -/

/-- R227, R228, R27: the pushes. PUSH PSW pushes A and the flag byte S Z 0 AC 0 P 1 CY. -/
def Obligations.PushResults : Prop :=
  ∀ s : State, s.mem.wf = true →
    (∃ t, exec (.push .bc) s = .next t ∧ PushesWord s t (s.b ++ s.c)) ∧
    (∃ t, exec (.push .de) s = .next t ∧ PushesWord s t (s.d ++ s.e)) ∧
    (∃ t, exec (.push .hl) s = .next t ∧ PushesWord s t (s.h ++ s.l)) ∧
    (∃ (t : State) (f : Byte), exec .pushPsw s = .next t ∧ PushesWord s t (s.a ++ f) ∧
      f.toNat = 128 * s.sf.toNat + 64 * s.zf.toNat + 16 * s.acf.toNat + 4 * s.pf.toNat + 2 + s.cyf.toNat) ∧
    encode (.push .bc) = [0xC5#8] ∧ encode (.push .de) = [0xD5#8] ∧ encode (.push .hl) = [0xE5#8] ∧
    encode .pushPsw = [0xF5#8]

/-- R229, R230, R226, R27: the pops: the low byte from SP, the high byte from SP+1, SP two higher. POP PSW takes the
flags from bits 7, 6, 4, 2 and 0 of the low byte and ignores the others. -/
def Obligations.PopResults : Prop :=
  ∀ (s r : State) (lo hi : Byte), lo = (s.memRead s.sp).1 → hi = ((s.memRead s.sp).2.memRead (s.sp + 1#16)).1 →
    r = { ((s.memRead s.sp).2.memRead (s.sp + 1#16)).2 with sp := s.sp + 2#16 } →
    exec (.pop .bc) s = .next { r with b := hi, c := lo } ∧
    exec (.pop .de) s = .next { r with d := hi, e := lo } ∧
    exec (.pop .hl) s = .next { r with h := hi, l := lo } ∧
    exec .popPsw s = .next { r with
      a := hi, sf := lo.getLsbD 7, zf := lo.getLsbD 6, acf := lo.getLsbD 4, pf := lo.getLsbD 2, cyf := lo.getLsbD 0 } ∧
    encode (.pop .bc) = [0xC1#8] ∧ encode (.pop .de) = [0xD1#8] ∧ encode (.pop .hl) = [0xE1#8] ∧
    encode .popPsw = [0xF1#8]

/-- R230: PUSH PSW then POP PSW, with anything done to A and the flags between them, restores A and all five flags. -/
def Obligations.PopPswUndoesPushPsw : Prop :=
  ∀ s : State, s.mem.wf = true → s.kindAt (s.sp - 1#16) = .ram → s.kindAt (s.sp - 2#16) = .ram →
    ∃ t, exec .pushPsw s = .next t ∧
      ∀ v f1 f2 f3 f4 f5,
        ∃ u, exec .popPsw { t with a := v, sf := f1, zf := f2, acf := f3, pf := f4, cyf := f5 } = .next u ∧
          u = { s with mem := u.mem }

/-- R231: XTHL exchanges HL with the two bytes at SP and SP+1; SP is unchanged. It reads both before it writes, H to
SP+1 first. -/
def Obligations.XthlResults : Prop :=
  ∀ s : State, s.mem.wf = true →
    ∃ t m₁ m₂ : State, exec .xthl s = .next t ∧
      StoresByte ((s.memRead s.sp).2.memRead (s.sp + 1#16)).2 m₁ (s.sp + 1#16) s.h ∧ StoresByte m₁ m₂ s.sp s.l ∧
      t = { m₂ with h := ((s.memRead s.sp).2.memRead (s.sp + 1#16)).1, l := (s.memRead s.sp).1 } ∧ t.sp = s.sp ∧
      encode .xthl = [0xE3#8]

/-- R231: two XTHL in a row restore HL and memory, with the stack in RAM. -/
def Obligations.XthlTwiceRestores : Prop :=
  ∀ s : State, s.mem.wf = true → s.kindAt s.sp = .ram → s.kindAt (s.sp + 1#16) = .ram →
    ∃ t u, exec .xthl s = .next t ∧ t.h = s.peek (s.sp + 1#16) ∧ t.l = s.peek s.sp ∧
      exec .xthl t = .next u ∧ u = { s with mem := u.mem } ∧ ∀ x, u.peek x = s.peek x

/-! ## Flag, input/output and control instructions -/

/-- R240, R241: CY and nothing else. -/
def Obligations.CarryInstructions : Prop :=
  ∀ s : State, exec .stc s = .next { s with cyf := true } ∧ exec .cmc s = .next { s with cyf := !s.cyf } ∧
    encode .stc = [0x37#8] ∧ encode .cmc = [0x3F#8]

/-- R245, R58: IN puts a byte the environment chooses into A and changes nothing else of the machine: the next one
scheduled, else a free value (log entry 6), whatever the port. -/
def Obligations.InputReadsADraw : Prop :=
  ∀ (s : State) (p : Byte),
    (∀ v rest, s.envBytes = v :: rest → exec (.inPort p) s = .next { s with a := v, envBytes := rest }) ∧
    (s.envBytes = [] →
      exec (.inPort p) s = .next { s with a := Config.freeByte s.drawCount, drawCount := s.drawCount + 1 }) ∧
    encode (.inPort p) = [0xDB#8, p]

/-- R246, R58: OUT appends the event (port, A) to the output history and changes nothing else. -/
def Obligations.OutputIsAppended : Prop :=
  ∀ (s : State) (p : Byte), exec (.outPort p) s = .next { s with outputs := s.outputs ++ [(p, s.a)] } ∧
    encode (.outPort p) = [0xD3#8, p]

/-- R250 to R253: NOP, HLT, DI and EI. That an EI with INTE already 1 sets ei_delay too is the spec's own decision
(R253(c), D10; log entry 16). -/
def Obligations.ControlInstructions : Prop :=
  ∀ s : State, exec .nop s = .next s ∧ exec .hlt s = .next { s with halted := true } ∧
    exec .di s = .next { s with inte := false } ∧ exec .ei s = .next { s with inte := true, eiDelay := true } ∧
    encode .nop = [0x00#8] ∧ encode .hlt = [0x76#8] ∧ encode .di = [0xF3#8] ∧ encode .ei = [0xFB#8]

/-! ## The undocumented opcode values -/

/-- R94 with UNDOC_OPCODES at its second value: the twelve values act as NOP, JMP, RET and CALL. The spec marks this as
inferred (log entry 2). -/
def Obligations.UndocumentedActAsOnSilicon : Prop :=
  ∀ (s : State) (aa : Word), s.mem.wf = true → s.params.undocOpcodes = .asSilicon →
    exec .undoc08 s = .next s ∧ exec .undoc10 s = .next s ∧ exec .undoc18 s = .next s ∧
    exec .undoc20 s = .next s ∧ exec .undoc28 s = .next s ∧ exec .undoc30 s = .next s ∧
    exec .undoc38 s = .next s ∧ exec (.undocCB aa) s = .next { s with pc := aa } ∧
    (∃ t, exec .undocD9 s = .next t ∧ Returns s t) ∧
    (∃ t, exec (.undocDD aa) s = .next t ∧ Calls s t aa) ∧
    (∃ t, exec (.undocED aa) s = .next t ∧ Calls s t aa) ∧
    (∃ t, exec (.undocFD aa) s = .next t ∧ Calls s t aa)

/-- R94 with UNDOC_OPCODES = refuse: executing one of the twelve is refused by name, with the state as it was. -/
def Obligations.UndocumentedAreRefused : Prop :=
  ∀ (s : State) (aa : Word), s.params.undocOpcodes = .refuse →
    exec .undoc08 s = .refused (.undocumentedOpcode 0x08#8 s) ∧
    exec .undoc10 s = .refused (.undocumentedOpcode 0x10#8 s) ∧
    exec .undoc18 s = .refused (.undocumentedOpcode 0x18#8 s) ∧
    exec .undoc20 s = .refused (.undocumentedOpcode 0x20#8 s) ∧
    exec .undoc28 s = .refused (.undocumentedOpcode 0x28#8 s) ∧
    exec .undoc30 s = .refused (.undocumentedOpcode 0x30#8 s) ∧
    exec .undoc38 s = .refused (.undocumentedOpcode 0x38#8 s) ∧
    exec (.undocCB aa) s = .refused (.undocumentedOpcode 0xCB#8 s) ∧
    exec .undocD9 s = .refused (.undocumentedOpcode 0xD9#8 s) ∧
    exec (.undocDD aa) s = .refused (.undocumentedOpcode 0xDD#8 s) ∧
    exec (.undocED aa) s = .refused (.undocumentedOpcode 0xED#8 s) ∧
    exec (.undocFD aa) s = .refused (.undocumentedOpcode 0xFD#8 s)

/-- R94 with UNDOC_OPCODES = refuse, at the step: when the refusal is raised PC has been advanced past byte 1, one byte
for CBh, DDh, EDh and FDh too, and no other state has changed but ei_delay, which every instruction clears (R97), and
the schedule of inputs, which is the model's choice (log entry 7). -/
def Obligations.RefusedOpcodeLeavesPcPastByteOne : Prop :=
  ∀ (s : State) (op : Byte), op ∈ undocumentedValues → s.params.undocOpcodes = .refuse →
    s.currentInputs.reset = false → s.accepts s.currentInputs = false → s.halted = false →
    s.readable s.pc → s.peek s.pc = op →
    step s = .refused (.undocumentedOpcode op
      { s with pc := s.pc + 1#16, eiDelay := false, inputs := s.inputs.tail })

/-- R64, R94, R131, R160, R170, R261, R278: the machine starts with the spec's decided default of every parameter, so that
the 8085's RIM and SIM, for two, are refused, and every address is RAM. That the parameters are a field of the state is the
model's choice (log entry 1). -/
def Obligations.ResetTakesTheDecidedParameters : Prop :=
  State.reset.params.undocOpcodes = .refuse ∧ State.reset.params.rotateReading = .intel ∧
  State.reset.params.acOnSubtract = .carryOfComplementAdd ∧ State.reset.params.acOnAnd = .orBit3 ∧
  State.reset.params.intInjected = .rstOnly ∧ (∀ x, State.reset.kindAt x = .ram) ∧
  exec (decodeBytes 0x20#8 0x00#8 0x00#8) State.reset = .refused (.undocumentedOpcode 0x20#8 State.reset) ∧
  exec (decodeBytes 0x30#8 0x00#8 0x00#8) State.reset = .refused (.undocumentedOpcode 0x30#8 State.reset)
end

