-- ==== Sys2Proof/Laws/Memory.lean ====
section
/-!
SUPPORT. The laws of memory as data: a byte written is read back, every other byte reads as before, the canonical form is
kept, and two memories in that form that read alike are equal.
-/

namespace Sys2Proof.Machine

/-- Below every listed address, memory reads as unlisted. -/
theorem Memory.read_of_above {m : Memory} {k : Nat} (h : Memory.above k m = true) {x : Nat} (hx : x ≤ k) :
    Memory.read m x = Config.powerOnByte := by
  cases m with
  | nil => rfl
  | cons p rest =>
    have : k < p.1 := by simpa [Memory.above] using h
    simp [Memory.read, show x < p.1 by omega]

/-- A write at `x` keeps everything listed above any address that was below it and below `x`. -/
theorem Memory.above_write {m : Memory} {k x : Nat} (v : Byte) (h : Memory.above k m = true)
    (hw : Memory.wf m = true) (hx : k < x) : Memory.above k (Memory.write m x v) = true := by
  induction m with
  | nil => unfold Memory.write; split <;> simp [Memory.above, hx]
  | cons p rest ih =>
    obtain ⟨j, w⟩ := p
    have hj : k < j := by simpa [Memory.above] using h
    simp only [Memory.wf, Bool.and_eq_true, decide_eq_true_eq] at hw
    have hr : Memory.above k rest = true := by
      have := hw.1.2
      cases rest with
      | nil => rfl
      | cons q _ =>
        have : j < q.1 := by simpa [Memory.above] using this
        simp [Memory.above]; omega
    unfold Memory.write
    split
    · split <;> simp [Memory.above, hj, hx]
    · split
      · split
        · exact ih hr hw.2
        · simp [Memory.above, hx]
      · simp [Memory.above, hj]

/-- Every write at an address of the 8080's space keeps the canonical form. -/
theorem Memory.wf_write {m : Memory} (hw : Memory.wf m = true) {x : Nat} (hx : x < 65536) (v : Byte) :
    Memory.wf (Memory.write m x v) = true := by
  induction m with
  | nil => unfold Memory.write; split <;> simp_all [Memory.wf, Memory.above]
  | cons p rest ih =>
    obtain ⟨j, w⟩ := p
    have hw' := hw
    simp only [Memory.wf, Bool.and_eq_true, decide_eq_true_eq] at hw
    unfold Memory.write
    split
    · split
      · exact hw'
      · simp_all [Memory.wf, Memory.above]
    · split
      · split
        · exact ih hw.2
        · subst x; simp_all [Memory.wf]
      · have : Memory.above j (Memory.write rest x v) = true := Memory.above_write v hw.1.2 hw.2 (by omega)
        simp_all [Memory.wf]

/-- The byte written is read back (R66(a)). -/
theorem Memory.read_write_self {m : Memory} (hw : Memory.wf m = true) (x : Nat) (v : Byte) :
    Memory.read (Memory.write m x v) x = v := by
  induction m with
  | nil => unfold Memory.write; split <;> simp_all [Memory.read]
  | cons p rest ih =>
    obtain ⟨j, w⟩ := p
    have hw' := hw
    simp only [Memory.wf, Bool.and_eq_true, decide_eq_true_eq] at hw
    unfold Memory.write
    split
    · split <;> simp_all [Memory.read]
    · split
      · split
        · exact ih hw.2
        · simp [Memory.read]
      · simp_all [Memory.read]

/-- Every other byte reads as before. -/
theorem Memory.read_write_ne {m : Memory} (hw : Memory.wf m = true) {x y : Nat} (v : Byte) (h : y ≠ x) :
    Memory.read (Memory.write m x v) y = Memory.read m y := by
  induction m with
  | nil => unfold Memory.write; split <;> simp [Memory.read, h]
  | cons p rest ih =>
    obtain ⟨j, w⟩ := p
    simp only [Memory.wf, Bool.and_eq_true, decide_eq_true_eq] at hw
    unfold Memory.write
    split
    · split
      · rfl
      · simp only [Memory.read]
        by_cases hlt : y < x
        · simp [hlt, show y < j by omega]
        · simp [hlt, h]
    · split
      · subst j
        split
        · rw [ih hw.2]
          simp only [Memory.read]
          by_cases hlt : y < x
          · simp [hlt, Memory.read_of_above hw.1.2 (by omega : y ≤ x)]
          · simp [hlt, h]
        · simp [Memory.read, h]
      · simp only [Memory.read]
        rw [ih hw.2]

/-- Two memories in canonical form that read alike at every address are equal: equal memories are equal data. -/
theorem Memory.ext_read {m m' : Memory} (hw : Memory.wf m = true) (hw' : Memory.wf m' = true)
    (h : ∀ x, Memory.read m x = Memory.read m' x) : m = m' := by
  induction m generalizing m' with
  | nil =>
    cases m' with
    | nil => rfl
    | cons p rest =>
      simp only [Memory.wf, Bool.and_eq_true, decide_eq_true_eq] at hw'
      have := h p.1
      simp [Memory.read] at this
      exact absurd this.symm hw'.1.1.2
  | cons p rest ih =>
    obtain ⟨j, w⟩ := p
    simp only [Memory.wf, Bool.and_eq_true, decide_eq_true_eq] at hw
    cases m' with
    | nil =>
      have := h j
      simp [Memory.read] at this
      exact absurd this hw.1.1.2
    | cons q rest' =>
      obtain ⟨j', w'⟩ := q
      simp only [Memory.wf, Bool.and_eq_true, decide_eq_true_eq] at hw'
      have hjj : j = j' := by
        have h1 := h j
        have h2 := h j'
        simp [Memory.read] at h1 h2
        by_contra hne
        rcases Nat.lt_or_gt_of_ne hne with hlt | hlt
        · simp [hlt] at h1
          exact hw.1.1.2 h1
        · simp [hlt] at h2
          exact hw'.1.1.2 h2.symm
      subst hjj
      have hv : w = w' := by simpa [Memory.read] using h j
      subst hv
      congr 1
      refine ih hw.2 hw'.2 fun x => ?_
      have hx := h x
      simp only [Memory.read] at hx
      by_cases hlt : x ≤ j
      · rw [Memory.read_of_above hw.1.2 hlt, Memory.read_of_above hw'.1.2 hlt]
      · simpa [show ¬ x < j by omega, show x ≠ j by omega] using hx

/-- The memory after reset has the canonical form. -/
theorem State.reset_mem_wf : State.reset.mem.wf = true := rfl

end Sys2Proof.Machine
end

