-- ==== Sys2Proof/Laws/State.lean ====
section
/-!
SUPPORT. One lemma per field and named update of the state: which fields an operation leaves alone, and what it puts in
the others where that is a plain expression. With them no later proof unfolds a record update.
-/

namespace Sys2Proof.Machine

/-! ### A write to a register -/

@[simp] theorem State.setReg_sp (s : State) (q : Reg) (v : Byte) : (s.setReg q v).sp = s.sp := by cases q <;> rfl
@[simp] theorem State.setReg_pc (s : State) (q : Reg) (v : Byte) : (s.setReg q v).pc = s.pc := by cases q <;> rfl
@[simp] theorem State.setReg_sf (s : State) (q : Reg) (v : Byte) : (s.setReg q v).sf = s.sf := by cases q <;> rfl
@[simp] theorem State.setReg_zf (s : State) (q : Reg) (v : Byte) : (s.setReg q v).zf = s.zf := by cases q <;> rfl
@[simp] theorem State.setReg_acf (s : State) (q : Reg) (v : Byte) : (s.setReg q v).acf = s.acf := by cases q <;> rfl
@[simp] theorem State.setReg_pf (s : State) (q : Reg) (v : Byte) : (s.setReg q v).pf = s.pf := by cases q <;> rfl
@[simp] theorem State.setReg_cyf (s : State) (q : Reg) (v : Byte) : (s.setReg q v).cyf = s.cyf := by cases q <;> rfl
@[simp] theorem State.setReg_inte (s : State) (q : Reg) (v : Byte) : (s.setReg q v).inte = s.inte := by cases q <;> rfl
@[simp] theorem State.setReg_halted (s : State) (q : Reg) (v : Byte) : (s.setReg q v).halted = s.halted := by cases q <;> rfl
@[simp] theorem State.setReg_eiDelay (s : State) (q : Reg) (v : Byte) : (s.setReg q v).eiDelay = s.eiDelay := by cases q <;> rfl
@[simp] theorem State.setReg_mem (s : State) (q : Reg) (v : Byte) : (s.setReg q v).mem = s.mem := by cases q <;> rfl
@[simp] theorem State.setReg_outputs (s : State) (q : Reg) (v : Byte) : (s.setReg q v).outputs = s.outputs := by cases q <;> rfl
@[simp] theorem State.setReg_busWrites (s : State) (q : Reg) (v : Byte) : (s.setReg q v).busWrites = s.busWrites := by cases q <;> rfl
@[simp] theorem State.setReg_inputs (s : State) (q : Reg) (v : Byte) : (s.setReg q v).inputs = s.inputs := by cases q <;> rfl
@[simp] theorem State.setReg_envBytes (s : State) (q : Reg) (v : Byte) : (s.setReg q v).envBytes = s.envBytes := by cases q <;> rfl
@[simp] theorem State.setReg_drawCount (s : State) (q : Reg) (v : Byte) : (s.setReg q v).drawCount = s.drawCount := by cases q <;> rfl
@[simp] theorem State.setReg_params (s : State) (q : Reg) (v : Byte) : (s.setReg q v).params = s.params := by cases q <;> rfl

/-! ### A write to a pair -/

@[simp] theorem State.setPair_a (s : State) (q : Pair) (v : Word) : (s.setPair q v).a = s.a := by cases q <;> rfl
@[simp] theorem State.setPair_pc (s : State) (q : Pair) (v : Word) : (s.setPair q v).pc = s.pc := by cases q <;> rfl
@[simp] theorem State.setPair_sf (s : State) (q : Pair) (v : Word) : (s.setPair q v).sf = s.sf := by cases q <;> rfl
@[simp] theorem State.setPair_zf (s : State) (q : Pair) (v : Word) : (s.setPair q v).zf = s.zf := by cases q <;> rfl
@[simp] theorem State.setPair_acf (s : State) (q : Pair) (v : Word) : (s.setPair q v).acf = s.acf := by cases q <;> rfl
@[simp] theorem State.setPair_pf (s : State) (q : Pair) (v : Word) : (s.setPair q v).pf = s.pf := by cases q <;> rfl
@[simp] theorem State.setPair_cyf (s : State) (q : Pair) (v : Word) : (s.setPair q v).cyf = s.cyf := by cases q <;> rfl
@[simp] theorem State.setPair_inte (s : State) (q : Pair) (v : Word) : (s.setPair q v).inte = s.inte := by cases q <;> rfl
@[simp] theorem State.setPair_halted (s : State) (q : Pair) (v : Word) : (s.setPair q v).halted = s.halted := by cases q <;> rfl
@[simp] theorem State.setPair_eiDelay (s : State) (q : Pair) (v : Word) : (s.setPair q v).eiDelay = s.eiDelay := by cases q <;> rfl
@[simp] theorem State.setPair_mem (s : State) (q : Pair) (v : Word) : (s.setPair q v).mem = s.mem := by cases q <;> rfl
@[simp] theorem State.setPair_outputs (s : State) (q : Pair) (v : Word) : (s.setPair q v).outputs = s.outputs := by cases q <;> rfl
@[simp] theorem State.setPair_busWrites (s : State) (q : Pair) (v : Word) : (s.setPair q v).busWrites = s.busWrites := by cases q <;> rfl
@[simp] theorem State.setPair_inputs (s : State) (q : Pair) (v : Word) : (s.setPair q v).inputs = s.inputs := by cases q <;> rfl
@[simp] theorem State.setPair_envBytes (s : State) (q : Pair) (v : Word) : (s.setPair q v).envBytes = s.envBytes := by cases q <;> rfl
@[simp] theorem State.setPair_drawCount (s : State) (q : Pair) (v : Word) : (s.setPair q v).drawCount = s.drawCount := by cases q <;> rfl
@[simp] theorem State.setPair_params (s : State) (q : Pair) (v : Word) : (s.setPair q v).params = s.params := by cases q <;> rfl

/-! ### S, Z and P -/

@[simp] theorem State.setZSP_a (s : State) (v : Byte) : (s.setZSP v).a = s.a := rfl
@[simp] theorem State.setZSP_b (s : State) (v : Byte) : (s.setZSP v).b = s.b := rfl
@[simp] theorem State.setZSP_c (s : State) (v : Byte) : (s.setZSP v).c = s.c := rfl
@[simp] theorem State.setZSP_d (s : State) (v : Byte) : (s.setZSP v).d = s.d := rfl
@[simp] theorem State.setZSP_e (s : State) (v : Byte) : (s.setZSP v).e = s.e := rfl
@[simp] theorem State.setZSP_h (s : State) (v : Byte) : (s.setZSP v).h = s.h := rfl
@[simp] theorem State.setZSP_l (s : State) (v : Byte) : (s.setZSP v).l = s.l := rfl
@[simp] theorem State.setZSP_sp (s : State) (v : Byte) : (s.setZSP v).sp = s.sp := rfl
@[simp] theorem State.setZSP_pc (s : State) (v : Byte) : (s.setZSP v).pc = s.pc := rfl
@[simp] theorem State.setZSP_sf (s : State) (v : Byte) :
    (s.setZSP v).sf = v.getLsbD 7 := rfl
@[simp] theorem State.setZSP_zf (s : State) (v : Byte) :
    (s.setZSP v).zf = decide (v = 0#8) := rfl
@[simp] theorem State.setZSP_acf (s : State) (v : Byte) : (s.setZSP v).acf = s.acf := rfl
@[simp] theorem State.setZSP_pf (s : State) (v : Byte) :
    (s.setZSP v).pf = parity8 v := rfl
@[simp] theorem State.setZSP_cyf (s : State) (v : Byte) : (s.setZSP v).cyf = s.cyf := rfl
@[simp] theorem State.setZSP_inte (s : State) (v : Byte) : (s.setZSP v).inte = s.inte := rfl
@[simp] theorem State.setZSP_halted (s : State) (v : Byte) : (s.setZSP v).halted = s.halted := rfl
@[simp] theorem State.setZSP_eiDelay (s : State) (v : Byte) : (s.setZSP v).eiDelay = s.eiDelay := rfl
@[simp] theorem State.setZSP_mem (s : State) (v : Byte) : (s.setZSP v).mem = s.mem := rfl
@[simp] theorem State.setZSP_outputs (s : State) (v : Byte) : (s.setZSP v).outputs = s.outputs := rfl
@[simp] theorem State.setZSP_busWrites (s : State) (v : Byte) : (s.setZSP v).busWrites = s.busWrites := rfl
@[simp] theorem State.setZSP_inputs (s : State) (v : Byte) : (s.setZSP v).inputs = s.inputs := rfl
@[simp] theorem State.setZSP_envBytes (s : State) (v : Byte) : (s.setZSP v).envBytes = s.envBytes := rfl
@[simp] theorem State.setZSP_drawCount (s : State) (v : Byte) : (s.setZSP v).drawCount = s.drawCount := rfl
@[simp] theorem State.setZSP_params (s : State) (v : Byte) : (s.setZSP v).params = s.params := rfl

/-! ### The flags from a byte -/

@[simp] theorem State.setFlags_a (s : State) (v : Byte) : (s.setFlags v).a = s.a := rfl
@[simp] theorem State.setFlags_b (s : State) (v : Byte) : (s.setFlags v).b = s.b := rfl
@[simp] theorem State.setFlags_c (s : State) (v : Byte) : (s.setFlags v).c = s.c := rfl
@[simp] theorem State.setFlags_d (s : State) (v : Byte) : (s.setFlags v).d = s.d := rfl
@[simp] theorem State.setFlags_e (s : State) (v : Byte) : (s.setFlags v).e = s.e := rfl
@[simp] theorem State.setFlags_h (s : State) (v : Byte) : (s.setFlags v).h = s.h := rfl
@[simp] theorem State.setFlags_l (s : State) (v : Byte) : (s.setFlags v).l = s.l := rfl
@[simp] theorem State.setFlags_sp (s : State) (v : Byte) : (s.setFlags v).sp = s.sp := rfl
@[simp] theorem State.setFlags_pc (s : State) (v : Byte) : (s.setFlags v).pc = s.pc := rfl
@[simp] theorem State.setFlags_sf (s : State) (v : Byte) :
    (s.setFlags v).sf = v.getLsbD 7 := rfl
@[simp] theorem State.setFlags_zf (s : State) (v : Byte) :
    (s.setFlags v).zf = v.getLsbD 6 := rfl
@[simp] theorem State.setFlags_acf (s : State) (v : Byte) :
    (s.setFlags v).acf = v.getLsbD 4 := rfl
@[simp] theorem State.setFlags_pf (s : State) (v : Byte) :
    (s.setFlags v).pf = v.getLsbD 2 := rfl
@[simp] theorem State.setFlags_cyf (s : State) (v : Byte) :
    (s.setFlags v).cyf = v.getLsbD 0 := rfl
@[simp] theorem State.setFlags_inte (s : State) (v : Byte) : (s.setFlags v).inte = s.inte := rfl
@[simp] theorem State.setFlags_halted (s : State) (v : Byte) : (s.setFlags v).halted = s.halted := rfl
@[simp] theorem State.setFlags_eiDelay (s : State) (v : Byte) : (s.setFlags v).eiDelay = s.eiDelay := rfl
@[simp] theorem State.setFlags_mem (s : State) (v : Byte) : (s.setFlags v).mem = s.mem := rfl
@[simp] theorem State.setFlags_outputs (s : State) (v : Byte) : (s.setFlags v).outputs = s.outputs := rfl
@[simp] theorem State.setFlags_busWrites (s : State) (v : Byte) : (s.setFlags v).busWrites = s.busWrites := rfl
@[simp] theorem State.setFlags_inputs (s : State) (v : Byte) : (s.setFlags v).inputs = s.inputs := rfl
@[simp] theorem State.setFlags_envBytes (s : State) (v : Byte) : (s.setFlags v).envBytes = s.envBytes := rfl
@[simp] theorem State.setFlags_drawCount (s : State) (v : Byte) : (s.setFlags v).drawCount = s.drawCount := rfl
@[simp] theorem State.setFlags_params (s : State) (v : Byte) : (s.setFlags v).params = s.params := rfl

/-! ### The five flags from an ALU result -/

@[simp] theorem State.setAluFlags_a (s : State) (r : Byte × Bool × Bool) : (s.setAluFlags r).a = s.a := rfl
@[simp] theorem State.setAluFlags_b (s : State) (r : Byte × Bool × Bool) : (s.setAluFlags r).b = s.b := rfl
@[simp] theorem State.setAluFlags_c (s : State) (r : Byte × Bool × Bool) : (s.setAluFlags r).c = s.c := rfl
@[simp] theorem State.setAluFlags_d (s : State) (r : Byte × Bool × Bool) : (s.setAluFlags r).d = s.d := rfl
@[simp] theorem State.setAluFlags_e (s : State) (r : Byte × Bool × Bool) : (s.setAluFlags r).e = s.e := rfl
@[simp] theorem State.setAluFlags_h (s : State) (r : Byte × Bool × Bool) : (s.setAluFlags r).h = s.h := rfl
@[simp] theorem State.setAluFlags_l (s : State) (r : Byte × Bool × Bool) : (s.setAluFlags r).l = s.l := rfl
@[simp] theorem State.setAluFlags_sp (s : State) (r : Byte × Bool × Bool) : (s.setAluFlags r).sp = s.sp := rfl
@[simp] theorem State.setAluFlags_pc (s : State) (r : Byte × Bool × Bool) : (s.setAluFlags r).pc = s.pc := rfl
@[simp] theorem State.setAluFlags_sf (s : State) (r : Byte × Bool × Bool) :
    (s.setAluFlags r).sf = r.1.getLsbD 7 := rfl
@[simp] theorem State.setAluFlags_zf (s : State) (r : Byte × Bool × Bool) :
    (s.setAluFlags r).zf = decide (r.1 = 0#8) := rfl
@[simp] theorem State.setAluFlags_acf (s : State) (r : Byte × Bool × Bool) :
    (s.setAluFlags r).acf = r.2.2 := rfl
@[simp] theorem State.setAluFlags_pf (s : State) (r : Byte × Bool × Bool) :
    (s.setAluFlags r).pf = parity8 r.1 := rfl
@[simp] theorem State.setAluFlags_cyf (s : State) (r : Byte × Bool × Bool) :
    (s.setAluFlags r).cyf = r.2.1 := rfl
@[simp] theorem State.setAluFlags_inte (s : State) (r : Byte × Bool × Bool) : (s.setAluFlags r).inte = s.inte := rfl
@[simp] theorem State.setAluFlags_halted (s : State) (r : Byte × Bool × Bool) : (s.setAluFlags r).halted = s.halted := rfl
@[simp] theorem State.setAluFlags_eiDelay (s : State) (r : Byte × Bool × Bool) : (s.setAluFlags r).eiDelay = s.eiDelay := rfl
@[simp] theorem State.setAluFlags_mem (s : State) (r : Byte × Bool × Bool) : (s.setAluFlags r).mem = s.mem := rfl
@[simp] theorem State.setAluFlags_outputs (s : State) (r : Byte × Bool × Bool) : (s.setAluFlags r).outputs = s.outputs := rfl
@[simp] theorem State.setAluFlags_busWrites (s : State) (r : Byte × Bool × Bool) : (s.setAluFlags r).busWrites = s.busWrites := rfl
@[simp] theorem State.setAluFlags_inputs (s : State) (r : Byte × Bool × Bool) : (s.setAluFlags r).inputs = s.inputs := rfl
@[simp] theorem State.setAluFlags_envBytes (s : State) (r : Byte × Bool × Bool) : (s.setAluFlags r).envBytes = s.envBytes := rfl
@[simp] theorem State.setAluFlags_drawCount (s : State) (r : Byte × Bool × Bool) : (s.setAluFlags r).drawCount = s.drawCount := rfl
@[simp] theorem State.setAluFlags_params (s : State) (r : Byte × Bool × Bool) : (s.setAluFlags r).params = s.params := rfl

/-! ### A and the five flags from an ALU result -/

@[simp] theorem State.setAlu_a (s : State) (r : Byte × Bool × Bool) :
    (s.setAlu r).a = r.1 := rfl
@[simp] theorem State.setAlu_b (s : State) (r : Byte × Bool × Bool) : (s.setAlu r).b = s.b := rfl
@[simp] theorem State.setAlu_c (s : State) (r : Byte × Bool × Bool) : (s.setAlu r).c = s.c := rfl
@[simp] theorem State.setAlu_d (s : State) (r : Byte × Bool × Bool) : (s.setAlu r).d = s.d := rfl
@[simp] theorem State.setAlu_e (s : State) (r : Byte × Bool × Bool) : (s.setAlu r).e = s.e := rfl
@[simp] theorem State.setAlu_h (s : State) (r : Byte × Bool × Bool) : (s.setAlu r).h = s.h := rfl
@[simp] theorem State.setAlu_l (s : State) (r : Byte × Bool × Bool) : (s.setAlu r).l = s.l := rfl
@[simp] theorem State.setAlu_sp (s : State) (r : Byte × Bool × Bool) : (s.setAlu r).sp = s.sp := rfl
@[simp] theorem State.setAlu_pc (s : State) (r : Byte × Bool × Bool) : (s.setAlu r).pc = s.pc := rfl
@[simp] theorem State.setAlu_sf (s : State) (r : Byte × Bool × Bool) :
    (s.setAlu r).sf = r.1.getLsbD 7 := rfl
@[simp] theorem State.setAlu_zf (s : State) (r : Byte × Bool × Bool) :
    (s.setAlu r).zf = decide (r.1 = 0#8) := rfl
@[simp] theorem State.setAlu_acf (s : State) (r : Byte × Bool × Bool) :
    (s.setAlu r).acf = r.2.2 := rfl
@[simp] theorem State.setAlu_pf (s : State) (r : Byte × Bool × Bool) :
    (s.setAlu r).pf = parity8 r.1 := rfl
@[simp] theorem State.setAlu_cyf (s : State) (r : Byte × Bool × Bool) :
    (s.setAlu r).cyf = r.2.1 := rfl
@[simp] theorem State.setAlu_inte (s : State) (r : Byte × Bool × Bool) : (s.setAlu r).inte = s.inte := rfl
@[simp] theorem State.setAlu_halted (s : State) (r : Byte × Bool × Bool) : (s.setAlu r).halted = s.halted := rfl
@[simp] theorem State.setAlu_eiDelay (s : State) (r : Byte × Bool × Bool) : (s.setAlu r).eiDelay = s.eiDelay := rfl
@[simp] theorem State.setAlu_mem (s : State) (r : Byte × Bool × Bool) : (s.setAlu r).mem = s.mem := rfl
@[simp] theorem State.setAlu_outputs (s : State) (r : Byte × Bool × Bool) : (s.setAlu r).outputs = s.outputs := rfl
@[simp] theorem State.setAlu_busWrites (s : State) (r : Byte × Bool × Bool) : (s.setAlu r).busWrites = s.busWrites := rfl
@[simp] theorem State.setAlu_inputs (s : State) (r : Byte × Bool × Bool) : (s.setAlu r).inputs = s.inputs := rfl
@[simp] theorem State.setAlu_envBytes (s : State) (r : Byte × Bool × Bool) : (s.setAlu r).envBytes = s.envBytes := rfl
@[simp] theorem State.setAlu_drawCount (s : State) (r : Byte × Bool × Bool) : (s.setAlu r).drawCount = s.drawCount := rfl
@[simp] theorem State.setAlu_params (s : State) (r : Byte × Bool × Bool) : (s.setAlu r).params = s.params := rfl

/-! ### A and CY from a rotation -/

@[simp] theorem State.setRotated_a (s : State) (r : Byte × Bool) :
    (s.setRotated r).a = r.1 := rfl
@[simp] theorem State.setRotated_b (s : State) (r : Byte × Bool) : (s.setRotated r).b = s.b := rfl
@[simp] theorem State.setRotated_c (s : State) (r : Byte × Bool) : (s.setRotated r).c = s.c := rfl
@[simp] theorem State.setRotated_d (s : State) (r : Byte × Bool) : (s.setRotated r).d = s.d := rfl
@[simp] theorem State.setRotated_e (s : State) (r : Byte × Bool) : (s.setRotated r).e = s.e := rfl
@[simp] theorem State.setRotated_h (s : State) (r : Byte × Bool) : (s.setRotated r).h = s.h := rfl
@[simp] theorem State.setRotated_l (s : State) (r : Byte × Bool) : (s.setRotated r).l = s.l := rfl
@[simp] theorem State.setRotated_sp (s : State) (r : Byte × Bool) : (s.setRotated r).sp = s.sp := rfl
@[simp] theorem State.setRotated_pc (s : State) (r : Byte × Bool) : (s.setRotated r).pc = s.pc := rfl
@[simp] theorem State.setRotated_sf (s : State) (r : Byte × Bool) : (s.setRotated r).sf = s.sf := rfl
@[simp] theorem State.setRotated_zf (s : State) (r : Byte × Bool) : (s.setRotated r).zf = s.zf := rfl
@[simp] theorem State.setRotated_acf (s : State) (r : Byte × Bool) : (s.setRotated r).acf = s.acf := rfl
@[simp] theorem State.setRotated_pf (s : State) (r : Byte × Bool) : (s.setRotated r).pf = s.pf := rfl
@[simp] theorem State.setRotated_cyf (s : State) (r : Byte × Bool) :
    (s.setRotated r).cyf = r.2 := rfl
@[simp] theorem State.setRotated_inte (s : State) (r : Byte × Bool) : (s.setRotated r).inte = s.inte := rfl
@[simp] theorem State.setRotated_halted (s : State) (r : Byte × Bool) : (s.setRotated r).halted = s.halted := rfl
@[simp] theorem State.setRotated_eiDelay (s : State) (r : Byte × Bool) : (s.setRotated r).eiDelay = s.eiDelay := rfl
@[simp] theorem State.setRotated_mem (s : State) (r : Byte × Bool) : (s.setRotated r).mem = s.mem := rfl
@[simp] theorem State.setRotated_outputs (s : State) (r : Byte × Bool) : (s.setRotated r).outputs = s.outputs := rfl
@[simp] theorem State.setRotated_busWrites (s : State) (r : Byte × Bool) : (s.setRotated r).busWrites = s.busWrites := rfl
@[simp] theorem State.setRotated_inputs (s : State) (r : Byte × Bool) : (s.setRotated r).inputs = s.inputs := rfl
@[simp] theorem State.setRotated_envBytes (s : State) (r : Byte × Bool) : (s.setRotated r).envBytes = s.envBytes := rfl
@[simp] theorem State.setRotated_drawCount (s : State) (r : Byte × Bool) : (s.setRotated r).drawCount = s.drawCount := rfl
@[simp] theorem State.setRotated_params (s : State) (r : Byte × Bool) : (s.setRotated r).params = s.params := rfl

/-! ### A write to memory -/

@[simp] theorem State.memWrite_a (s : State) (x : Word) (v : Byte) : (s.memWrite x v).a = s.a := by
  unfold State.memWrite; split <;> rfl
@[simp] theorem State.memWrite_b (s : State) (x : Word) (v : Byte) : (s.memWrite x v).b = s.b := by
  unfold State.memWrite; split <;> rfl
@[simp] theorem State.memWrite_c (s : State) (x : Word) (v : Byte) : (s.memWrite x v).c = s.c := by
  unfold State.memWrite; split <;> rfl
@[simp] theorem State.memWrite_d (s : State) (x : Word) (v : Byte) : (s.memWrite x v).d = s.d := by
  unfold State.memWrite; split <;> rfl
@[simp] theorem State.memWrite_e (s : State) (x : Word) (v : Byte) : (s.memWrite x v).e = s.e := by
  unfold State.memWrite; split <;> rfl
@[simp] theorem State.memWrite_h (s : State) (x : Word) (v : Byte) : (s.memWrite x v).h = s.h := by
  unfold State.memWrite; split <;> rfl
@[simp] theorem State.memWrite_l (s : State) (x : Word) (v : Byte) : (s.memWrite x v).l = s.l := by
  unfold State.memWrite; split <;> rfl
@[simp] theorem State.memWrite_sp (s : State) (x : Word) (v : Byte) : (s.memWrite x v).sp = s.sp := by
  unfold State.memWrite; split <;> rfl
@[simp] theorem State.memWrite_pc (s : State) (x : Word) (v : Byte) : (s.memWrite x v).pc = s.pc := by
  unfold State.memWrite; split <;> rfl
@[simp] theorem State.memWrite_sf (s : State) (x : Word) (v : Byte) : (s.memWrite x v).sf = s.sf := by
  unfold State.memWrite; split <;> rfl
@[simp] theorem State.memWrite_zf (s : State) (x : Word) (v : Byte) : (s.memWrite x v).zf = s.zf := by
  unfold State.memWrite; split <;> rfl
@[simp] theorem State.memWrite_acf (s : State) (x : Word) (v : Byte) : (s.memWrite x v).acf = s.acf := by
  unfold State.memWrite; split <;> rfl
@[simp] theorem State.memWrite_pf (s : State) (x : Word) (v : Byte) : (s.memWrite x v).pf = s.pf := by
  unfold State.memWrite; split <;> rfl
@[simp] theorem State.memWrite_cyf (s : State) (x : Word) (v : Byte) : (s.memWrite x v).cyf = s.cyf := by
  unfold State.memWrite; split <;> rfl
@[simp] theorem State.memWrite_inte (s : State) (x : Word) (v : Byte) : (s.memWrite x v).inte = s.inte := by
  unfold State.memWrite; split <;> rfl
@[simp] theorem State.memWrite_halted (s : State) (x : Word) (v : Byte) : (s.memWrite x v).halted = s.halted := by
  unfold State.memWrite; split <;> rfl
@[simp] theorem State.memWrite_eiDelay (s : State) (x : Word) (v : Byte) : (s.memWrite x v).eiDelay = s.eiDelay := by
  unfold State.memWrite; split <;> rfl
@[simp] theorem State.memWrite_outputs (s : State) (x : Word) (v : Byte) : (s.memWrite x v).outputs = s.outputs := by
  unfold State.memWrite; split <;> rfl
@[simp] theorem State.memWrite_inputs (s : State) (x : Word) (v : Byte) : (s.memWrite x v).inputs = s.inputs := by
  unfold State.memWrite; split <;> rfl
@[simp] theorem State.memWrite_envBytes (s : State) (x : Word) (v : Byte) : (s.memWrite x v).envBytes = s.envBytes := by
  unfold State.memWrite; split <;> rfl
@[simp] theorem State.memWrite_drawCount (s : State) (x : Word) (v : Byte) : (s.memWrite x v).drawCount = s.drawCount := by
  unfold State.memWrite; split <;> rfl
@[simp] theorem State.memWrite_params (s : State) (x : Word) (v : Byte) : (s.memWrite x v).params = s.params := by
  unfold State.memWrite; split <;> rfl

/-! ### A draw from the environment -/

@[simp] theorem State.draw_a (s : State) : (s.draw.2).a = s.a := by
  unfold State.draw; split <;> rfl
@[simp] theorem State.draw_b (s : State) : (s.draw.2).b = s.b := by
  unfold State.draw; split <;> rfl
@[simp] theorem State.draw_c (s : State) : (s.draw.2).c = s.c := by
  unfold State.draw; split <;> rfl
@[simp] theorem State.draw_d (s : State) : (s.draw.2).d = s.d := by
  unfold State.draw; split <;> rfl
@[simp] theorem State.draw_e (s : State) : (s.draw.2).e = s.e := by
  unfold State.draw; split <;> rfl
@[simp] theorem State.draw_h (s : State) : (s.draw.2).h = s.h := by
  unfold State.draw; split <;> rfl
@[simp] theorem State.draw_l (s : State) : (s.draw.2).l = s.l := by
  unfold State.draw; split <;> rfl
@[simp] theorem State.draw_sp (s : State) : (s.draw.2).sp = s.sp := by
  unfold State.draw; split <;> rfl
@[simp] theorem State.draw_pc (s : State) : (s.draw.2).pc = s.pc := by
  unfold State.draw; split <;> rfl
@[simp] theorem State.draw_sf (s : State) : (s.draw.2).sf = s.sf := by
  unfold State.draw; split <;> rfl
@[simp] theorem State.draw_zf (s : State) : (s.draw.2).zf = s.zf := by
  unfold State.draw; split <;> rfl
@[simp] theorem State.draw_acf (s : State) : (s.draw.2).acf = s.acf := by
  unfold State.draw; split <;> rfl
@[simp] theorem State.draw_pf (s : State) : (s.draw.2).pf = s.pf := by
  unfold State.draw; split <;> rfl
@[simp] theorem State.draw_cyf (s : State) : (s.draw.2).cyf = s.cyf := by
  unfold State.draw; split <;> rfl
@[simp] theorem State.draw_inte (s : State) : (s.draw.2).inte = s.inte := by
  unfold State.draw; split <;> rfl
@[simp] theorem State.draw_halted (s : State) : (s.draw.2).halted = s.halted := by
  unfold State.draw; split <;> rfl
@[simp] theorem State.draw_eiDelay (s : State) : (s.draw.2).eiDelay = s.eiDelay := by
  unfold State.draw; split <;> rfl
@[simp] theorem State.draw_mem (s : State) : (s.draw.2).mem = s.mem := by
  unfold State.draw; split <;> rfl
@[simp] theorem State.draw_outputs (s : State) : (s.draw.2).outputs = s.outputs := by
  unfold State.draw; split <;> rfl
@[simp] theorem State.draw_busWrites (s : State) : (s.draw.2).busWrites = s.busWrites := by
  unfold State.draw; split <;> rfl
@[simp] theorem State.draw_inputs (s : State) : (s.draw.2).inputs = s.inputs := by
  unfold State.draw; split <;> rfl
@[simp] theorem State.draw_params (s : State) : (s.draw.2).params = s.params := by
  unfold State.draw; split <;> rfl

/-! ### A read of memory -/

@[simp] theorem State.memRead_a (s : State) (x : Word) : ((s.memRead x).2).a = s.a := by
  unfold State.memRead; split <;> simp
@[simp] theorem State.memRead_b (s : State) (x : Word) : ((s.memRead x).2).b = s.b := by
  unfold State.memRead; split <;> simp
@[simp] theorem State.memRead_c (s : State) (x : Word) : ((s.memRead x).2).c = s.c := by
  unfold State.memRead; split <;> simp
@[simp] theorem State.memRead_d (s : State) (x : Word) : ((s.memRead x).2).d = s.d := by
  unfold State.memRead; split <;> simp
@[simp] theorem State.memRead_e (s : State) (x : Word) : ((s.memRead x).2).e = s.e := by
  unfold State.memRead; split <;> simp
@[simp] theorem State.memRead_h (s : State) (x : Word) : ((s.memRead x).2).h = s.h := by
  unfold State.memRead; split <;> simp
@[simp] theorem State.memRead_l (s : State) (x : Word) : ((s.memRead x).2).l = s.l := by
  unfold State.memRead; split <;> simp
@[simp] theorem State.memRead_sp (s : State) (x : Word) : ((s.memRead x).2).sp = s.sp := by
  unfold State.memRead; split <;> simp
@[simp] theorem State.memRead_pc (s : State) (x : Word) : ((s.memRead x).2).pc = s.pc := by
  unfold State.memRead; split <;> simp
@[simp] theorem State.memRead_sf (s : State) (x : Word) : ((s.memRead x).2).sf = s.sf := by
  unfold State.memRead; split <;> simp
@[simp] theorem State.memRead_zf (s : State) (x : Word) : ((s.memRead x).2).zf = s.zf := by
  unfold State.memRead; split <;> simp
@[simp] theorem State.memRead_acf (s : State) (x : Word) : ((s.memRead x).2).acf = s.acf := by
  unfold State.memRead; split <;> simp
@[simp] theorem State.memRead_pf (s : State) (x : Word) : ((s.memRead x).2).pf = s.pf := by
  unfold State.memRead; split <;> simp
@[simp] theorem State.memRead_cyf (s : State) (x : Word) : ((s.memRead x).2).cyf = s.cyf := by
  unfold State.memRead; split <;> simp
@[simp] theorem State.memRead_inte (s : State) (x : Word) : ((s.memRead x).2).inte = s.inte := by
  unfold State.memRead; split <;> simp
@[simp] theorem State.memRead_halted (s : State) (x : Word) : ((s.memRead x).2).halted = s.halted := by
  unfold State.memRead; split <;> simp
@[simp] theorem State.memRead_eiDelay (s : State) (x : Word) : ((s.memRead x).2).eiDelay = s.eiDelay := by
  unfold State.memRead; split <;> simp
@[simp] theorem State.memRead_mem (s : State) (x : Word) : ((s.memRead x).2).mem = s.mem := by
  unfold State.memRead; split <;> simp
@[simp] theorem State.memRead_outputs (s : State) (x : Word) : ((s.memRead x).2).outputs = s.outputs := by
  unfold State.memRead; split <;> simp
@[simp] theorem State.memRead_busWrites (s : State) (x : Word) : ((s.memRead x).2).busWrites = s.busWrites := by
  unfold State.memRead; split <;> simp
@[simp] theorem State.memRead_inputs (s : State) (x : Word) : ((s.memRead x).2).inputs = s.inputs := by
  unfold State.memRead; split <;> simp
@[simp] theorem State.memRead_params (s : State) (x : Word) : ((s.memRead x).2).params = s.params := by
  unfold State.memRead; split <;> simp

/-! ### A read of a port -/

@[simp] theorem State.ioRead_a (s : State) (p : Byte) : ((s.ioRead p).2).a = s.a := by simp [State.ioRead]
@[simp] theorem State.ioRead_b (s : State) (p : Byte) : ((s.ioRead p).2).b = s.b := by simp [State.ioRead]
@[simp] theorem State.ioRead_c (s : State) (p : Byte) : ((s.ioRead p).2).c = s.c := by simp [State.ioRead]
@[simp] theorem State.ioRead_d (s : State) (p : Byte) : ((s.ioRead p).2).d = s.d := by simp [State.ioRead]
@[simp] theorem State.ioRead_e (s : State) (p : Byte) : ((s.ioRead p).2).e = s.e := by simp [State.ioRead]
@[simp] theorem State.ioRead_h (s : State) (p : Byte) : ((s.ioRead p).2).h = s.h := by simp [State.ioRead]
@[simp] theorem State.ioRead_l (s : State) (p : Byte) : ((s.ioRead p).2).l = s.l := by simp [State.ioRead]
@[simp] theorem State.ioRead_sp (s : State) (p : Byte) : ((s.ioRead p).2).sp = s.sp := by simp [State.ioRead]
@[simp] theorem State.ioRead_pc (s : State) (p : Byte) : ((s.ioRead p).2).pc = s.pc := by simp [State.ioRead]
@[simp] theorem State.ioRead_sf (s : State) (p : Byte) : ((s.ioRead p).2).sf = s.sf := by simp [State.ioRead]
@[simp] theorem State.ioRead_zf (s : State) (p : Byte) : ((s.ioRead p).2).zf = s.zf := by simp [State.ioRead]
@[simp] theorem State.ioRead_acf (s : State) (p : Byte) : ((s.ioRead p).2).acf = s.acf := by simp [State.ioRead]
@[simp] theorem State.ioRead_pf (s : State) (p : Byte) : ((s.ioRead p).2).pf = s.pf := by simp [State.ioRead]
@[simp] theorem State.ioRead_cyf (s : State) (p : Byte) : ((s.ioRead p).2).cyf = s.cyf := by simp [State.ioRead]
@[simp] theorem State.ioRead_inte (s : State) (p : Byte) : ((s.ioRead p).2).inte = s.inte := by simp [State.ioRead]
@[simp] theorem State.ioRead_halted (s : State) (p : Byte) : ((s.ioRead p).2).halted = s.halted := by simp [State.ioRead]
@[simp] theorem State.ioRead_eiDelay (s : State) (p : Byte) : ((s.ioRead p).2).eiDelay = s.eiDelay := by simp [State.ioRead]
@[simp] theorem State.ioRead_mem (s : State) (p : Byte) : ((s.ioRead p).2).mem = s.mem := by simp [State.ioRead]
@[simp] theorem State.ioRead_outputs (s : State) (p : Byte) : ((s.ioRead p).2).outputs = s.outputs := by simp [State.ioRead]
@[simp] theorem State.ioRead_busWrites (s : State) (p : Byte) : ((s.ioRead p).2).busWrites = s.busWrites := by simp [State.ioRead]
@[simp] theorem State.ioRead_inputs (s : State) (p : Byte) : ((s.ioRead p).2).inputs = s.inputs := by simp [State.ioRead]
@[simp] theorem State.ioRead_params (s : State) (p : Byte) : ((s.ioRead p).2).params = s.params := by simp [State.ioRead]

/-! ### A write to a port -/

@[simp] theorem State.ioWrite_a (s : State) (p v : Byte) : (s.ioWrite p v).a = s.a := rfl
@[simp] theorem State.ioWrite_b (s : State) (p v : Byte) : (s.ioWrite p v).b = s.b := rfl
@[simp] theorem State.ioWrite_c (s : State) (p v : Byte) : (s.ioWrite p v).c = s.c := rfl
@[simp] theorem State.ioWrite_d (s : State) (p v : Byte) : (s.ioWrite p v).d = s.d := rfl
@[simp] theorem State.ioWrite_e (s : State) (p v : Byte) : (s.ioWrite p v).e = s.e := rfl
@[simp] theorem State.ioWrite_h (s : State) (p v : Byte) : (s.ioWrite p v).h = s.h := rfl
@[simp] theorem State.ioWrite_l (s : State) (p v : Byte) : (s.ioWrite p v).l = s.l := rfl
@[simp] theorem State.ioWrite_sp (s : State) (p v : Byte) : (s.ioWrite p v).sp = s.sp := rfl
@[simp] theorem State.ioWrite_pc (s : State) (p v : Byte) : (s.ioWrite p v).pc = s.pc := rfl
@[simp] theorem State.ioWrite_sf (s : State) (p v : Byte) : (s.ioWrite p v).sf = s.sf := rfl
@[simp] theorem State.ioWrite_zf (s : State) (p v : Byte) : (s.ioWrite p v).zf = s.zf := rfl
@[simp] theorem State.ioWrite_acf (s : State) (p v : Byte) : (s.ioWrite p v).acf = s.acf := rfl
@[simp] theorem State.ioWrite_pf (s : State) (p v : Byte) : (s.ioWrite p v).pf = s.pf := rfl
@[simp] theorem State.ioWrite_cyf (s : State) (p v : Byte) : (s.ioWrite p v).cyf = s.cyf := rfl
@[simp] theorem State.ioWrite_inte (s : State) (p v : Byte) : (s.ioWrite p v).inte = s.inte := rfl
@[simp] theorem State.ioWrite_halted (s : State) (p v : Byte) : (s.ioWrite p v).halted = s.halted := rfl
@[simp] theorem State.ioWrite_eiDelay (s : State) (p v : Byte) : (s.ioWrite p v).eiDelay = s.eiDelay := rfl
@[simp] theorem State.ioWrite_mem (s : State) (p v : Byte) : (s.ioWrite p v).mem = s.mem := rfl
@[simp] theorem State.ioWrite_outputs (s : State) (p v : Byte) :
    (s.ioWrite p v).outputs = s.outputs ++ [(p, v)] := rfl
@[simp] theorem State.ioWrite_busWrites (s : State) (p v : Byte) : (s.ioWrite p v).busWrites = s.busWrites := rfl
@[simp] theorem State.ioWrite_inputs (s : State) (p v : Byte) : (s.ioWrite p v).inputs = s.inputs := rfl
@[simp] theorem State.ioWrite_envBytes (s : State) (p v : Byte) : (s.ioWrite p v).envBytes = s.envBytes := rfl
@[simp] theorem State.ioWrite_drawCount (s : State) (p v : Byte) : (s.ioWrite p v).drawCount = s.drawCount := rfl
@[simp] theorem State.ioWrite_params (s : State) (p v : Byte) : (s.ioWrite p v).params = s.params := rfl

/-! ### A read of an operand r -/

@[simp] theorem State.readOpd_a (s : State) (o : Opd) : ((s.readOpd o).2).a = s.a := by
  cases o <;> simp [State.readOpd]
@[simp] theorem State.readOpd_b (s : State) (o : Opd) : ((s.readOpd o).2).b = s.b := by
  cases o <;> simp [State.readOpd]
@[simp] theorem State.readOpd_c (s : State) (o : Opd) : ((s.readOpd o).2).c = s.c := by
  cases o <;> simp [State.readOpd]
@[simp] theorem State.readOpd_d (s : State) (o : Opd) : ((s.readOpd o).2).d = s.d := by
  cases o <;> simp [State.readOpd]
@[simp] theorem State.readOpd_e (s : State) (o : Opd) : ((s.readOpd o).2).e = s.e := by
  cases o <;> simp [State.readOpd]
@[simp] theorem State.readOpd_h (s : State) (o : Opd) : ((s.readOpd o).2).h = s.h := by
  cases o <;> simp [State.readOpd]
@[simp] theorem State.readOpd_l (s : State) (o : Opd) : ((s.readOpd o).2).l = s.l := by
  cases o <;> simp [State.readOpd]
@[simp] theorem State.readOpd_sp (s : State) (o : Opd) : ((s.readOpd o).2).sp = s.sp := by
  cases o <;> simp [State.readOpd]
@[simp] theorem State.readOpd_pc (s : State) (o : Opd) : ((s.readOpd o).2).pc = s.pc := by
  cases o <;> simp [State.readOpd]
@[simp] theorem State.readOpd_sf (s : State) (o : Opd) : ((s.readOpd o).2).sf = s.sf := by
  cases o <;> simp [State.readOpd]
@[simp] theorem State.readOpd_zf (s : State) (o : Opd) : ((s.readOpd o).2).zf = s.zf := by
  cases o <;> simp [State.readOpd]
@[simp] theorem State.readOpd_acf (s : State) (o : Opd) : ((s.readOpd o).2).acf = s.acf := by
  cases o <;> simp [State.readOpd]
@[simp] theorem State.readOpd_pf (s : State) (o : Opd) : ((s.readOpd o).2).pf = s.pf := by
  cases o <;> simp [State.readOpd]
@[simp] theorem State.readOpd_cyf (s : State) (o : Opd) : ((s.readOpd o).2).cyf = s.cyf := by
  cases o <;> simp [State.readOpd]
@[simp] theorem State.readOpd_inte (s : State) (o : Opd) : ((s.readOpd o).2).inte = s.inte := by
  cases o <;> simp [State.readOpd]
@[simp] theorem State.readOpd_halted (s : State) (o : Opd) : ((s.readOpd o).2).halted = s.halted := by
  cases o <;> simp [State.readOpd]
@[simp] theorem State.readOpd_eiDelay (s : State) (o : Opd) : ((s.readOpd o).2).eiDelay = s.eiDelay := by
  cases o <;> simp [State.readOpd]
@[simp] theorem State.readOpd_mem (s : State) (o : Opd) : ((s.readOpd o).2).mem = s.mem := by
  cases o <;> simp [State.readOpd]
@[simp] theorem State.readOpd_outputs (s : State) (o : Opd) : ((s.readOpd o).2).outputs = s.outputs := by
  cases o <;> simp [State.readOpd]
@[simp] theorem State.readOpd_busWrites (s : State) (o : Opd) : ((s.readOpd o).2).busWrites = s.busWrites := by
  cases o <;> simp [State.readOpd]
@[simp] theorem State.readOpd_inputs (s : State) (o : Opd) : ((s.readOpd o).2).inputs = s.inputs := by
  cases o <;> simp [State.readOpd]
@[simp] theorem State.readOpd_params (s : State) (o : Opd) : ((s.readOpd o).2).params = s.params := by
  cases o <;> simp [State.readOpd]

/-! ### A write to an operand r -/

@[simp] theorem State.writeOpd_sp (s : State) (o : Opd) (v : Byte) : (s.writeOpd o v).sp = s.sp := by
  cases o <;> simp [State.writeOpd]
@[simp] theorem State.writeOpd_pc (s : State) (o : Opd) (v : Byte) : (s.writeOpd o v).pc = s.pc := by
  cases o <;> simp [State.writeOpd]
@[simp] theorem State.writeOpd_sf (s : State) (o : Opd) (v : Byte) : (s.writeOpd o v).sf = s.sf := by
  cases o <;> simp [State.writeOpd]
@[simp] theorem State.writeOpd_zf (s : State) (o : Opd) (v : Byte) : (s.writeOpd o v).zf = s.zf := by
  cases o <;> simp [State.writeOpd]
@[simp] theorem State.writeOpd_acf (s : State) (o : Opd) (v : Byte) : (s.writeOpd o v).acf = s.acf := by
  cases o <;> simp [State.writeOpd]
@[simp] theorem State.writeOpd_pf (s : State) (o : Opd) (v : Byte) : (s.writeOpd o v).pf = s.pf := by
  cases o <;> simp [State.writeOpd]
@[simp] theorem State.writeOpd_cyf (s : State) (o : Opd) (v : Byte) : (s.writeOpd o v).cyf = s.cyf := by
  cases o <;> simp [State.writeOpd]
@[simp] theorem State.writeOpd_inte (s : State) (o : Opd) (v : Byte) : (s.writeOpd o v).inte = s.inte := by
  cases o <;> simp [State.writeOpd]
@[simp] theorem State.writeOpd_halted (s : State) (o : Opd) (v : Byte) : (s.writeOpd o v).halted = s.halted := by
  cases o <;> simp [State.writeOpd]
@[simp] theorem State.writeOpd_eiDelay (s : State) (o : Opd) (v : Byte) : (s.writeOpd o v).eiDelay = s.eiDelay := by
  cases o <;> simp [State.writeOpd]
@[simp] theorem State.writeOpd_outputs (s : State) (o : Opd) (v : Byte) : (s.writeOpd o v).outputs = s.outputs := by
  cases o <;> simp [State.writeOpd]
@[simp] theorem State.writeOpd_inputs (s : State) (o : Opd) (v : Byte) : (s.writeOpd o v).inputs = s.inputs := by
  cases o <;> simp [State.writeOpd]
@[simp] theorem State.writeOpd_envBytes (s : State) (o : Opd) (v : Byte) : (s.writeOpd o v).envBytes = s.envBytes := by
  cases o <;> simp [State.writeOpd]
@[simp] theorem State.writeOpd_drawCount (s : State) (o : Opd) (v : Byte) : (s.writeOpd o v).drawCount = s.drawCount := by
  cases o <;> simp [State.writeOpd]
@[simp] theorem State.writeOpd_params (s : State) (o : Opd) (v : Byte) : (s.writeOpd o v).params = s.params := by
  cases o <;> simp [State.writeOpd]

/-! ### A fetch -/

@[simp] theorem State.fetch8_a (s : State) : (s.fetch8.2).a = s.a := by simp [State.fetch8]
@[simp] theorem State.fetch8_b (s : State) : (s.fetch8.2).b = s.b := by simp [State.fetch8]
@[simp] theorem State.fetch8_c (s : State) : (s.fetch8.2).c = s.c := by simp [State.fetch8]
@[simp] theorem State.fetch8_d (s : State) : (s.fetch8.2).d = s.d := by simp [State.fetch8]
@[simp] theorem State.fetch8_e (s : State) : (s.fetch8.2).e = s.e := by simp [State.fetch8]
@[simp] theorem State.fetch8_h (s : State) : (s.fetch8.2).h = s.h := by simp [State.fetch8]
@[simp] theorem State.fetch8_l (s : State) : (s.fetch8.2).l = s.l := by simp [State.fetch8]
@[simp] theorem State.fetch8_sp (s : State) : (s.fetch8.2).sp = s.sp := by simp [State.fetch8]
@[simp] theorem State.fetch8_pc (s : State) :
    (s.fetch8.2).pc = s.pc + 1#16 := rfl
@[simp] theorem State.fetch8_sf (s : State) : (s.fetch8.2).sf = s.sf := by simp [State.fetch8]
@[simp] theorem State.fetch8_zf (s : State) : (s.fetch8.2).zf = s.zf := by simp [State.fetch8]
@[simp] theorem State.fetch8_acf (s : State) : (s.fetch8.2).acf = s.acf := by simp [State.fetch8]
@[simp] theorem State.fetch8_pf (s : State) : (s.fetch8.2).pf = s.pf := by simp [State.fetch8]
@[simp] theorem State.fetch8_cyf (s : State) : (s.fetch8.2).cyf = s.cyf := by simp [State.fetch8]
@[simp] theorem State.fetch8_inte (s : State) : (s.fetch8.2).inte = s.inte := by simp [State.fetch8]
@[simp] theorem State.fetch8_halted (s : State) : (s.fetch8.2).halted = s.halted := by simp [State.fetch8]
@[simp] theorem State.fetch8_eiDelay (s : State) : (s.fetch8.2).eiDelay = s.eiDelay := by simp [State.fetch8]
@[simp] theorem State.fetch8_mem (s : State) : (s.fetch8.2).mem = s.mem := by simp [State.fetch8]
@[simp] theorem State.fetch8_outputs (s : State) : (s.fetch8.2).outputs = s.outputs := by simp [State.fetch8]
@[simp] theorem State.fetch8_busWrites (s : State) : (s.fetch8.2).busWrites = s.busWrites := by simp [State.fetch8]
@[simp] theorem State.fetch8_inputs (s : State) : (s.fetch8.2).inputs = s.inputs := by simp [State.fetch8]
@[simp] theorem State.fetch8_params (s : State) : (s.fetch8.2).params = s.params := by simp [State.fetch8]

/-! ### A push -/

@[simp] theorem State.push16_a (s : State) (v : Word) : (s.push16 v).a = s.a := by
  simp [State.push16]
@[simp] theorem State.push16_b (s : State) (v : Word) : (s.push16 v).b = s.b := by
  simp [State.push16]
@[simp] theorem State.push16_c (s : State) (v : Word) : (s.push16 v).c = s.c := by
  simp [State.push16]
@[simp] theorem State.push16_d (s : State) (v : Word) : (s.push16 v).d = s.d := by
  simp [State.push16]
@[simp] theorem State.push16_e (s : State) (v : Word) : (s.push16 v).e = s.e := by
  simp [State.push16]
@[simp] theorem State.push16_h (s : State) (v : Word) : (s.push16 v).h = s.h := by
  simp [State.push16]
@[simp] theorem State.push16_l (s : State) (v : Word) : (s.push16 v).l = s.l := by
  simp [State.push16]
@[simp] theorem State.push16_sp (s : State) (v : Word) :
    (s.push16 v).sp = s.sp - 2#16 := rfl
@[simp] theorem State.push16_pc (s : State) (v : Word) : (s.push16 v).pc = s.pc := by
  simp [State.push16]
@[simp] theorem State.push16_sf (s : State) (v : Word) : (s.push16 v).sf = s.sf := by
  simp [State.push16]
@[simp] theorem State.push16_zf (s : State) (v : Word) : (s.push16 v).zf = s.zf := by
  simp [State.push16]
@[simp] theorem State.push16_acf (s : State) (v : Word) : (s.push16 v).acf = s.acf := by
  simp [State.push16]
@[simp] theorem State.push16_pf (s : State) (v : Word) : (s.push16 v).pf = s.pf := by
  simp [State.push16]
@[simp] theorem State.push16_cyf (s : State) (v : Word) : (s.push16 v).cyf = s.cyf := by
  simp [State.push16]
@[simp] theorem State.push16_inte (s : State) (v : Word) : (s.push16 v).inte = s.inte := by
  simp [State.push16]
@[simp] theorem State.push16_halted (s : State) (v : Word) : (s.push16 v).halted = s.halted := by
  simp [State.push16]
@[simp] theorem State.push16_eiDelay (s : State) (v : Word) : (s.push16 v).eiDelay = s.eiDelay := by
  simp [State.push16]
@[simp] theorem State.push16_outputs (s : State) (v : Word) : (s.push16 v).outputs = s.outputs := by
  simp [State.push16]
@[simp] theorem State.push16_inputs (s : State) (v : Word) : (s.push16 v).inputs = s.inputs := by
  simp [State.push16]
@[simp] theorem State.push16_envBytes (s : State) (v : Word) : (s.push16 v).envBytes = s.envBytes := by
  simp [State.push16]
@[simp] theorem State.push16_drawCount (s : State) (v : Word) : (s.push16 v).drawCount = s.drawCount := by
  simp [State.push16]
@[simp] theorem State.push16_params (s : State) (v : Word) : (s.push16 v).params = s.params := by
  simp [State.push16]

/-! ### A pop -/

@[simp] theorem State.pop16_a (s : State) : (s.pop16.2).a = s.a := by
  simp [State.pop16]
@[simp] theorem State.pop16_b (s : State) : (s.pop16.2).b = s.b := by
  simp [State.pop16]
@[simp] theorem State.pop16_c (s : State) : (s.pop16.2).c = s.c := by
  simp [State.pop16]
@[simp] theorem State.pop16_d (s : State) : (s.pop16.2).d = s.d := by
  simp [State.pop16]
@[simp] theorem State.pop16_e (s : State) : (s.pop16.2).e = s.e := by
  simp [State.pop16]
@[simp] theorem State.pop16_h (s : State) : (s.pop16.2).h = s.h := by
  simp [State.pop16]
@[simp] theorem State.pop16_l (s : State) : (s.pop16.2).l = s.l := by
  simp [State.pop16]
@[simp] theorem State.pop16_sp (s : State) :
    (s.pop16.2).sp = s.sp + 2#16 := rfl
@[simp] theorem State.pop16_pc (s : State) : (s.pop16.2).pc = s.pc := by
  simp [State.pop16]
@[simp] theorem State.pop16_sf (s : State) : (s.pop16.2).sf = s.sf := by
  simp [State.pop16]
@[simp] theorem State.pop16_zf (s : State) : (s.pop16.2).zf = s.zf := by
  simp [State.pop16]
@[simp] theorem State.pop16_acf (s : State) : (s.pop16.2).acf = s.acf := by
  simp [State.pop16]
@[simp] theorem State.pop16_pf (s : State) : (s.pop16.2).pf = s.pf := by
  simp [State.pop16]
@[simp] theorem State.pop16_cyf (s : State) : (s.pop16.2).cyf = s.cyf := by
  simp [State.pop16]
@[simp] theorem State.pop16_inte (s : State) : (s.pop16.2).inte = s.inte := by
  simp [State.pop16]
@[simp] theorem State.pop16_halted (s : State) : (s.pop16.2).halted = s.halted := by
  simp [State.pop16]
@[simp] theorem State.pop16_eiDelay (s : State) : (s.pop16.2).eiDelay = s.eiDelay := by
  simp [State.pop16]
@[simp] theorem State.pop16_mem (s : State) : (s.pop16.2).mem = s.mem := by
  simp [State.pop16]
@[simp] theorem State.pop16_outputs (s : State) : (s.pop16.2).outputs = s.outputs := by
  simp [State.pop16]
@[simp] theorem State.pop16_busWrites (s : State) : (s.pop16.2).busWrites = s.busWrites := by
  simp [State.pop16]
@[simp] theorem State.pop16_inputs (s : State) : (s.pop16.2).inputs = s.inputs := by
  simp [State.pop16]
@[simp] theorem State.pop16_params (s : State) : (s.pop16.2).params = s.params := by
  simp [State.pop16]

/-! ### A call -/

@[simp] theorem State.callTo_a (s : State) (w : Word) : (s.callTo w).a = s.a := by
  simp [State.callTo]
@[simp] theorem State.callTo_b (s : State) (w : Word) : (s.callTo w).b = s.b := by
  simp [State.callTo]
@[simp] theorem State.callTo_c (s : State) (w : Word) : (s.callTo w).c = s.c := by
  simp [State.callTo]
@[simp] theorem State.callTo_d (s : State) (w : Word) : (s.callTo w).d = s.d := by
  simp [State.callTo]
@[simp] theorem State.callTo_e (s : State) (w : Word) : (s.callTo w).e = s.e := by
  simp [State.callTo]
@[simp] theorem State.callTo_h (s : State) (w : Word) : (s.callTo w).h = s.h := by
  simp [State.callTo]
@[simp] theorem State.callTo_l (s : State) (w : Word) : (s.callTo w).l = s.l := by
  simp [State.callTo]
@[simp] theorem State.callTo_sp (s : State) (w : Word) :
    (s.callTo w).sp = s.sp - 2#16 := by simp [State.callTo]
@[simp] theorem State.callTo_pc (s : State) (w : Word) :
    (s.callTo w).pc = w := by simp [State.callTo]
@[simp] theorem State.callTo_sf (s : State) (w : Word) : (s.callTo w).sf = s.sf := by
  simp [State.callTo]
@[simp] theorem State.callTo_zf (s : State) (w : Word) : (s.callTo w).zf = s.zf := by
  simp [State.callTo]
@[simp] theorem State.callTo_acf (s : State) (w : Word) : (s.callTo w).acf = s.acf := by
  simp [State.callTo]
@[simp] theorem State.callTo_pf (s : State) (w : Word) : (s.callTo w).pf = s.pf := by
  simp [State.callTo]
@[simp] theorem State.callTo_cyf (s : State) (w : Word) : (s.callTo w).cyf = s.cyf := by
  simp [State.callTo]
@[simp] theorem State.callTo_inte (s : State) (w : Word) : (s.callTo w).inte = s.inte := by
  simp [State.callTo]
@[simp] theorem State.callTo_halted (s : State) (w : Word) : (s.callTo w).halted = s.halted := by
  simp [State.callTo]
@[simp] theorem State.callTo_eiDelay (s : State) (w : Word) : (s.callTo w).eiDelay = s.eiDelay := by
  simp [State.callTo]
@[simp] theorem State.callTo_outputs (s : State) (w : Word) : (s.callTo w).outputs = s.outputs := by
  simp [State.callTo]
@[simp] theorem State.callTo_inputs (s : State) (w : Word) : (s.callTo w).inputs = s.inputs := by
  simp [State.callTo]
@[simp] theorem State.callTo_envBytes (s : State) (w : Word) : (s.callTo w).envBytes = s.envBytes := by
  simp [State.callTo]
@[simp] theorem State.callTo_drawCount (s : State) (w : Word) : (s.callTo w).drawCount = s.drawCount := by
  simp [State.callTo]
@[simp] theorem State.callTo_params (s : State) (w : Word) : (s.callTo w).params = s.params := by
  simp [State.callTo]

/-! ### A return -/

@[simp] theorem State.returnFromCall_a (s : State) : (s.returnFromCall).a = s.a := by
  simp [State.returnFromCall]
@[simp] theorem State.returnFromCall_b (s : State) : (s.returnFromCall).b = s.b := by
  simp [State.returnFromCall]
@[simp] theorem State.returnFromCall_c (s : State) : (s.returnFromCall).c = s.c := by
  simp [State.returnFromCall]
@[simp] theorem State.returnFromCall_d (s : State) : (s.returnFromCall).d = s.d := by
  simp [State.returnFromCall]
@[simp] theorem State.returnFromCall_e (s : State) : (s.returnFromCall).e = s.e := by
  simp [State.returnFromCall]
@[simp] theorem State.returnFromCall_h (s : State) : (s.returnFromCall).h = s.h := by
  simp [State.returnFromCall]
@[simp] theorem State.returnFromCall_l (s : State) : (s.returnFromCall).l = s.l := by
  simp [State.returnFromCall]
@[simp] theorem State.returnFromCall_sp (s : State) :
    (s.returnFromCall).sp = s.sp + 2#16 := by simp [State.returnFromCall]
@[simp] theorem State.returnFromCall_pc (s : State) :
    (s.returnFromCall).pc = s.pop16.1 := by simp [State.returnFromCall]
@[simp] theorem State.returnFromCall_sf (s : State) : (s.returnFromCall).sf = s.sf := by
  simp [State.returnFromCall]
@[simp] theorem State.returnFromCall_zf (s : State) : (s.returnFromCall).zf = s.zf := by
  simp [State.returnFromCall]
@[simp] theorem State.returnFromCall_acf (s : State) : (s.returnFromCall).acf = s.acf := by
  simp [State.returnFromCall]
@[simp] theorem State.returnFromCall_pf (s : State) : (s.returnFromCall).pf = s.pf := by
  simp [State.returnFromCall]
@[simp] theorem State.returnFromCall_cyf (s : State) : (s.returnFromCall).cyf = s.cyf := by
  simp [State.returnFromCall]
@[simp] theorem State.returnFromCall_inte (s : State) : (s.returnFromCall).inte = s.inte := by
  simp [State.returnFromCall]
@[simp] theorem State.returnFromCall_halted (s : State) : (s.returnFromCall).halted = s.halted := by
  simp [State.returnFromCall]
@[simp] theorem State.returnFromCall_eiDelay (s : State) : (s.returnFromCall).eiDelay = s.eiDelay := by
  simp [State.returnFromCall]
@[simp] theorem State.returnFromCall_mem (s : State) : (s.returnFromCall).mem = s.mem := by
  simp [State.returnFromCall]
@[simp] theorem State.returnFromCall_outputs (s : State) : (s.returnFromCall).outputs = s.outputs := by
  simp [State.returnFromCall]
@[simp] theorem State.returnFromCall_busWrites (s : State) : (s.returnFromCall).busWrites = s.busWrites := by
  simp [State.returnFromCall]
@[simp] theorem State.returnFromCall_inputs (s : State) : (s.returnFromCall).inputs = s.inputs := by
  simp [State.returnFromCall]
@[simp] theorem State.returnFromCall_params (s : State) : (s.returnFromCall).params = s.params := by
  simp [State.returnFromCall]

/-! ### The acknowledge -/

@[simp] theorem State.acknowledge_a (s : State) : (s.acknowledge).a = s.a := rfl
@[simp] theorem State.acknowledge_b (s : State) : (s.acknowledge).b = s.b := rfl
@[simp] theorem State.acknowledge_c (s : State) : (s.acknowledge).c = s.c := rfl
@[simp] theorem State.acknowledge_d (s : State) : (s.acknowledge).d = s.d := rfl
@[simp] theorem State.acknowledge_e (s : State) : (s.acknowledge).e = s.e := rfl
@[simp] theorem State.acknowledge_h (s : State) : (s.acknowledge).h = s.h := rfl
@[simp] theorem State.acknowledge_l (s : State) : (s.acknowledge).l = s.l := rfl
@[simp] theorem State.acknowledge_sp (s : State) : (s.acknowledge).sp = s.sp := rfl
@[simp] theorem State.acknowledge_pc (s : State) : (s.acknowledge).pc = s.pc := rfl
@[simp] theorem State.acknowledge_sf (s : State) : (s.acknowledge).sf = s.sf := rfl
@[simp] theorem State.acknowledge_zf (s : State) : (s.acknowledge).zf = s.zf := rfl
@[simp] theorem State.acknowledge_acf (s : State) : (s.acknowledge).acf = s.acf := rfl
@[simp] theorem State.acknowledge_pf (s : State) : (s.acknowledge).pf = s.pf := rfl
@[simp] theorem State.acknowledge_cyf (s : State) : (s.acknowledge).cyf = s.cyf := rfl
@[simp] theorem State.acknowledge_inte (s : State) :
    (s.acknowledge).inte = false := rfl
@[simp] theorem State.acknowledge_halted (s : State) :
    (s.acknowledge).halted = false := rfl
@[simp] theorem State.acknowledge_eiDelay (s : State) :
    (s.acknowledge).eiDelay = false := rfl
@[simp] theorem State.acknowledge_mem (s : State) : (s.acknowledge).mem = s.mem := rfl
@[simp] theorem State.acknowledge_outputs (s : State) : (s.acknowledge).outputs = s.outputs := rfl
@[simp] theorem State.acknowledge_busWrites (s : State) : (s.acknowledge).busWrites = s.busWrites := rfl
@[simp] theorem State.acknowledge_inputs (s : State) : (s.acknowledge).inputs = s.inputs := rfl
@[simp] theorem State.acknowledge_envBytes (s : State) : (s.acknowledge).envBytes = s.envBytes := rfl
@[simp] theorem State.acknowledge_drawCount (s : State) : (s.acknowledge).drawCount = s.drawCount := rfl
@[simp] theorem State.acknowledge_params (s : State) : (s.acknowledge).params = s.params := rfl

/-! ### RESET -/

@[simp] theorem State.applyReset_a (s : State) : (s.applyReset).a = s.a := rfl
@[simp] theorem State.applyReset_b (s : State) : (s.applyReset).b = s.b := rfl
@[simp] theorem State.applyReset_c (s : State) : (s.applyReset).c = s.c := rfl
@[simp] theorem State.applyReset_d (s : State) : (s.applyReset).d = s.d := rfl
@[simp] theorem State.applyReset_e (s : State) : (s.applyReset).e = s.e := rfl
@[simp] theorem State.applyReset_h (s : State) : (s.applyReset).h = s.h := rfl
@[simp] theorem State.applyReset_l (s : State) : (s.applyReset).l = s.l := rfl
@[simp] theorem State.applyReset_sp (s : State) : (s.applyReset).sp = s.sp := rfl
@[simp] theorem State.applyReset_pc (s : State) :
    (s.applyReset).pc = 0#16 := rfl
@[simp] theorem State.applyReset_sf (s : State) : (s.applyReset).sf = s.sf := rfl
@[simp] theorem State.applyReset_zf (s : State) : (s.applyReset).zf = s.zf := rfl
@[simp] theorem State.applyReset_acf (s : State) : (s.applyReset).acf = s.acf := rfl
@[simp] theorem State.applyReset_pf (s : State) : (s.applyReset).pf = s.pf := rfl
@[simp] theorem State.applyReset_cyf (s : State) : (s.applyReset).cyf = s.cyf := rfl
@[simp] theorem State.applyReset_inte (s : State) :
    (s.applyReset).inte = false := rfl
@[simp] theorem State.applyReset_halted (s : State) :
    (s.applyReset).halted = false := rfl
@[simp] theorem State.applyReset_eiDelay (s : State) :
    (s.applyReset).eiDelay = false := rfl
@[simp] theorem State.applyReset_mem (s : State) : (s.applyReset).mem = s.mem := rfl
@[simp] theorem State.applyReset_outputs (s : State) : (s.applyReset).outputs = s.outputs := rfl
@[simp] theorem State.applyReset_busWrites (s : State) : (s.applyReset).busWrites = s.busWrites := rfl
@[simp] theorem State.applyReset_inputs (s : State) : (s.applyReset).inputs = s.inputs := rfl
@[simp] theorem State.applyReset_envBytes (s : State) : (s.applyReset).envBytes = s.envBytes := rfl
@[simp] theorem State.applyReset_drawCount (s : State) : (s.applyReset).drawCount = s.drawCount := rfl
@[simp] theorem State.applyReset_params (s : State) : (s.applyReset).params = s.params := rfl

/-! ### The input schedule -/

@[simp] theorem State.consumeInputs_a (s : State) : (s.consumeInputs).a = s.a := rfl
@[simp] theorem State.consumeInputs_b (s : State) : (s.consumeInputs).b = s.b := rfl
@[simp] theorem State.consumeInputs_c (s : State) : (s.consumeInputs).c = s.c := rfl
@[simp] theorem State.consumeInputs_d (s : State) : (s.consumeInputs).d = s.d := rfl
@[simp] theorem State.consumeInputs_e (s : State) : (s.consumeInputs).e = s.e := rfl
@[simp] theorem State.consumeInputs_h (s : State) : (s.consumeInputs).h = s.h := rfl
@[simp] theorem State.consumeInputs_l (s : State) : (s.consumeInputs).l = s.l := rfl
@[simp] theorem State.consumeInputs_sp (s : State) : (s.consumeInputs).sp = s.sp := rfl
@[simp] theorem State.consumeInputs_pc (s : State) : (s.consumeInputs).pc = s.pc := rfl
@[simp] theorem State.consumeInputs_sf (s : State) : (s.consumeInputs).sf = s.sf := rfl
@[simp] theorem State.consumeInputs_zf (s : State) : (s.consumeInputs).zf = s.zf := rfl
@[simp] theorem State.consumeInputs_acf (s : State) : (s.consumeInputs).acf = s.acf := rfl
@[simp] theorem State.consumeInputs_pf (s : State) : (s.consumeInputs).pf = s.pf := rfl
@[simp] theorem State.consumeInputs_cyf (s : State) : (s.consumeInputs).cyf = s.cyf := rfl
@[simp] theorem State.consumeInputs_inte (s : State) : (s.consumeInputs).inte = s.inte := rfl
@[simp] theorem State.consumeInputs_halted (s : State) : (s.consumeInputs).halted = s.halted := rfl
@[simp] theorem State.consumeInputs_eiDelay (s : State) : (s.consumeInputs).eiDelay = s.eiDelay := rfl
@[simp] theorem State.consumeInputs_mem (s : State) : (s.consumeInputs).mem = s.mem := rfl
@[simp] theorem State.consumeInputs_outputs (s : State) : (s.consumeInputs).outputs = s.outputs := rfl
@[simp] theorem State.consumeInputs_busWrites (s : State) : (s.consumeInputs).busWrites = s.busWrites := rfl
@[simp] theorem State.consumeInputs_inputs (s : State) :
    (s.consumeInputs).inputs = s.inputs.tail := rfl
@[simp] theorem State.consumeInputs_envBytes (s : State) : (s.consumeInputs).envBytes = s.envBytes := rfl
@[simp] theorem State.consumeInputs_drawCount (s : State) : (s.consumeInputs).drawCount = s.drawCount := rfl
@[simp] theorem State.consumeInputs_params (s : State) : (s.consumeInputs).params = s.params := rfl

/-! ### Registers and pairs read back -/

@[simp] theorem State.setReg_getReg_self (s : State) (q : Reg) (v : Byte) : (s.setReg q v).getReg q = v := by
  cases q <;> rfl

theorem State.setReg_getReg_ne (s : State) {q q' : Reg} (v : Byte) (h : q' ≠ q) :
    (s.setReg q v).getReg q' = s.getReg q' := by
  cases q <;> cases q' <;> first | rfl | exact absurd rfl h

/-- A write to a register changes general registers only. -/
theorem State.setReg_only (s : State) (q : Reg) (v : Byte) :
    s.setReg q v = { s with
      a := (s.setReg q v).a, b := (s.setReg q v).b, c := (s.setReg q v).c, d := (s.setReg q v).d,
      e := (s.setReg q v).e, h := (s.setReg q v).h, l := (s.setReg q v).l } := by
  cases q <;> rfl

theorem State.setPair_getPair_ne (s : State) {q q' : Pair} (v : Word) (h : q' ≠ q) :
    (s.setPair q v).getPair q' = s.getPair q' := by
  cases q <;> cases q' <;> first | rfl | exact absurd rfl h

/-- A write to a pair changes the six registers of the pairs and SP only. -/
theorem State.setPair_only (s : State) (q : Pair) (v : Word) :
    s.setPair q v = { s with
      b := (s.setPair q v).b, c := (s.setPair q v).c, d := (s.setPair q v).d, e := (s.setPair q v).e,
      h := (s.setPair q v).h, l := (s.setPair q v).l, sp := (s.setPair q v).sp } := by
  cases q <;> rfl

end Sys2Proof.Machine
end

