-- ==== Sys2Proof/Laws/Ops.lean ====
section
/-!
SUPPORT. One lemma per shared operation that says once what it can do; proofs cite these and do not unfold the operation.
-/

namespace Sys2Proof.Machine

/-! ### Draws and reads -/

/-- A draw takes the next scheduled byte, or, where none is scheduled, the next free value. -/
theorem State.draw_cases (s : State) :
    (∃ v rest, s.envBytes = v :: rest ∧ s.draw = (v, { s with envBytes := rest })) ∨
    (s.envBytes = [] ∧ s.draw = (Config.freeByte s.drawCount, { s with drawCount := s.drawCount + 1 })) := by
  cases h : s.envBytes with
  | nil => exact .inr ⟨rfl, by simp [State.draw, h]⟩
  | cons v rest => exact .inl ⟨v, rest, rfl, by simp [State.draw, h]⟩

/-- A read of an address that is no device returns the byte of memory and changes nothing. -/
theorem State.memRead_memory {s : State} {x : Word} (h : s.kindAt x ≠ .device) :
    s.memRead x = (s.mem.read x.toNat, s) := by
  unfold State.memRead
  cases hk : s.kindAt x <;> simp_all

/-- A read of a device address is a draw. -/
theorem State.memRead_device {s : State} {x : Word} (h : s.kindAt x = .device) : s.memRead x = s.draw := by
  simp [State.memRead, h]

/-- Whatever the address, a read changes nothing but the environment's two fields. -/
theorem State.memRead_only (s : State) (x : Word) :
    (s.memRead x).2 = { s with envBytes := (s.memRead x).2.envBytes, drawCount := (s.memRead x).2.drawCount } := by
  unfold State.memRead
  split
  · rfl
  · rfl
  · unfold State.draw; split <;> rfl

@[simp] theorem State.memRead_kindAt (s : State) (x y : Word) : (s.memRead x).2.kindAt y = s.kindAt y := by
  simp [State.kindAt]

@[simp] theorem State.memWrite_kindAt (s : State) (x y : Word) (v : Byte) : (s.memWrite x v).kindAt y = s.kindAt y := by
  simp [State.kindAt]

/-! ### Writes -/

/-- A write stores in RAM, is lost in ROM, and is recorded at a device. -/
theorem State.memWrite_cases (s : State) (x : Word) (v : Byte) :
    (s.kindAt x = .ram ∧ s.memWrite x v = { s with mem := s.mem.write x.toNat v }) ∨
    (s.kindAt x = .rom ∧ s.memWrite x v = s) ∨
    (s.kindAt x = .device ∧ s.memWrite x v = { s with busWrites := s.busWrites ++ [(x, v)] }) := by
  cases h : s.kindAt x <;> simp [State.memWrite, h]

/-- A write keeps the canonical form, whatever the kind of the address. -/
theorem State.memWrite_wf {s : State} (hw : s.mem.wf = true) (x : Word) (v : Byte) :
    (s.memWrite x v).mem.wf = true := by
  rcases State.memWrite_cases s x v with ⟨-, h⟩ | ⟨-, h⟩ | ⟨-, h⟩ <;> rw [h]
  · exact Memory.wf_write hw x.isLt v
  · exact hw
  · exact hw

/-- The byte of RAM written reads as written. -/
theorem State.memWrite_read_self {s : State} (hw : s.mem.wf = true) {x : Word} (hk : s.kindAt x = .ram) (v : Byte) :
    (s.memWrite x v).mem.read x.toNat = v := by
  simp [State.memWrite, hk, Memory.read_write_self hw]

/-- Every other byte of memory reads as before. -/
theorem State.memWrite_read_ne {s : State} (hw : s.mem.wf = true) {x y : Word} (h : y ≠ x) (v : Byte) :
    (s.memWrite x v).mem.read y.toNat = s.mem.read y.toNat := by
  rcases State.memWrite_cases s x v with ⟨-, e⟩ | ⟨-, e⟩ | ⟨-, e⟩ <;> rw [e]
  exact Memory.read_write_ne hw v (word_toNat_ne h)

/-- ROM is not changed by a write anywhere. -/
theorem State.memWrite_read_rom {s : State} (hw : s.mem.wf = true) {y : Word} (hk : s.kindAt y = .rom) (x : Word)
    (v : Byte) : (s.memWrite x v).mem.read y.toNat = s.mem.read y.toNat := by
  by_cases h : y = x
  · subst h; simp [State.memWrite, hk]
  · exact State.memWrite_read_ne hw h v

/-! ### The stack -/

/-- The two addresses of a push are distinct. -/
theorem push_addresses_ne (w : Word) : w - 1#16 ≠ w - 2#16 := by bv_omega

/-- The two addresses of a pop are distinct. -/
theorem pop_addresses_ne (w : Word) : w + 1#16 ≠ w := by bv_omega

/-- A push is two writes, the high byte at SP-1 first, and SP two lower. -/
theorem State.push16_eq (s : State) (v : Word) :
    s.push16 v = { (s.memWrite (s.sp - 1#16) (hiByte v)).memWrite (s.sp - 2#16) (loByte v) with sp := s.sp - 2#16 } :=
  rfl

theorem State.push16_wf {s : State} (hw : s.mem.wf = true) (v : Word) : (s.push16 v).mem.wf = true :=
  State.memWrite_wf (State.memWrite_wf hw _ _) _ _

/-- A pop of RAM or ROM returns the two bytes at SP and SP+1 and moves SP only. -/
theorem State.pop16_memory {s : State} (h0 : s.kindAt s.sp ≠ .device) (h1 : s.kindAt (s.sp + 1#16) ≠ .device) :
    s.pop16 = (joinBytes (s.mem.read (s.sp + 1#16).toNat) (s.mem.read s.sp.toNat), { s with sp := s.sp + 2#16 }) := by
  simp [State.pop16, State.memRead_memory h0, State.memRead_memory h1]

/-- What a push to RAM stores is what the two bytes then read. -/
theorem State.push16_read {s : State} (hw : s.mem.wf = true) (v : Word)
    (h1 : s.kindAt (s.sp - 1#16) = .ram) (h2 : s.kindAt (s.sp - 2#16) = .ram) :
    (s.push16 v).mem.read (s.sp - 1#16).toNat = hiByte v ∧
      (s.push16 v).mem.read (s.sp - 2#16).toNat = loByte v := by
  have hw1 := State.memWrite_wf hw (s.sp - 1#16) (hiByte v)
  constructor
  · show ((s.memWrite _ _).memWrite _ _).mem.read _ = _
    rw [State.memWrite_read_ne hw1 (push_addresses_ne s.sp), State.memWrite_read_self hw h1]
  · show ((s.memWrite _ _).memWrite _ _).mem.read _ = _
    exact State.memWrite_read_self hw1 (by simpa using h2) _

/-- A push changes no byte of memory but the two at SP-1 and SP-2. -/
theorem State.push16_read_ne {s : State} (hw : s.mem.wf = true) (v : Word) {x : Word}
    (h1 : x ≠ s.sp - 1#16) (h2 : x ≠ s.sp - 2#16) : (s.push16 v).mem.read x.toNat = s.mem.read x.toNat := by
  show ((s.memWrite _ _).memWrite _ _).mem.read _ = _
  rw [State.memWrite_read_ne (State.memWrite_wf hw _ _) h2, State.memWrite_read_ne hw h1]

/-- A pop right after a push, with the stack in RAM, returns the word pushed and restores SP (R211). -/
theorem State.pop16_push16 {s : State} (hw : s.mem.wf = true) (v : Word)
    (h1 : s.kindAt (s.sp - 1#16) = .ram) (h2 : s.kindAt (s.sp - 2#16) = .ram) :
    (s.push16 v).pop16 = (v, { s with mem := (s.push16 v).mem }) := by
  have hk : ∀ y, (s.push16 v).kindAt y = s.kindAt y := fun y => by simp [State.kindAt]
  have e1 : s.sp - 2#16 + 1#16 = s.sp - 1#16 := by bv_omega
  have e2 : s.sp - 2#16 + 2#16 = s.sp := by bv_omega
  obtain ⟨r1, r2⟩ := State.push16_read hw v h1 h2
  rw [State.pop16_memory (by simp [hk, h2]) (by simp [hk, e1, h1])]
  simp only [State.push16_sp, e1, e2, r1, r2, joinBytes_hiByte_loByte]
  congr 1
  simp only [State.push16, State.memWrite, h1]
  simp only [State.kindAt] at h2 ⊢
  simp [h2]

/-! ### Operands -/

/-- A write to a register operand is a write to the register, to M a write to memory at HL. -/
theorem State.writeOpd_wf {s : State} (hw : s.mem.wf = true) (o : Opd) (v : Byte) :
    (s.writeOpd o v).mem.wf = true := by
  cases o with
  | reg q => simpa [State.writeOpd] using hw
  | m => exact State.memWrite_wf hw _ _

/-! ### The interrupt and the undocumented values -/

/-- Taking an interrupt: the acknowledge, PC pushed, PC at 8*n, and the canonical form kept (R276, R277). -/
theorem State.takeInterrupt_eq (s : State) (n : BitVec 3) :
    s.takeInterrupt n = { s.acknowledge.push16 s.pc with pc := BitVec.ofNat 16 (8 * n.toNat) } :=
  rfl

/-- An undocumented value either is refused by name or takes its step on silicon (R94). -/
theorem undocumented_cases (op : Byte) (silicon s : State) :
    (s.params.undocOpcodes = .refuse ∧ undocumented op silicon s = .refused (.undocumentedOpcode op s)) ∨
    (s.params.undocOpcodes = .asSilicon ∧ undocumented op silicon s = .next silicon) := by
  cases h : s.params.undocOpcodes <;> simp [undocumented, h]

end Sys2Proof.Machine
end

