-- ==== Sys2Proof/Laws/Fetch.lean ====
section
/-!
SUPPORT. Fetching an instruction (R24(b), R57, R83): what a fetch can change at all, and what it answers when its bytes are
memory.
-/

namespace Sys2Proof.Machine

/-- An instruction is one, two or three bytes long (R80). -/
theorem opcodeLength_cases (op : Byte) : opcodeLength op = 1 ∨ opcodeLength op = 2 ∨ opcodeLength op = 3 := by
  revert op; decide

/-- The number of bytes fetched: byte 1 alone of a refused undocumented opcode, else the instruction's length. -/
theorem fetchLength_eq (mode : UndocOpcodes) (op : Byte) :
    fetchLength mode op = if mode = .refuse ∧ isUndocumented op = true then 1 else opcodeLength op := by
  cases mode <;> cases h : isUndocumented op <;> simp [fetchLength, h]

/-- One, two or three bytes are fetched (R80). -/
theorem fetchLength_cases (mode : UndocOpcodes) (op : Byte) :
    fetchLength mode op = 1 ∨ fetchLength mode op = 2 ∨ fetchLength mode op = 3 := by
  rw [fetchLength_eq]
  split
  · exact .inl rfl
  · exact opcodeLength_cases op

/-- A fetch changes PC and the environment's two fields only. -/
theorem State.fetch8_only (s : State) :
    s.fetch8.2 = { s with
      pc := s.pc + 1#16, envBytes := s.fetch8.2.envBytes, drawCount := s.fetch8.2.drawCount } := by
  simp only [State.fetch8]
  rw [State.memRead_only]

/-- Fetching an instruction changes PC and the environment's two fields only. -/
theorem State.fetchInstr_only (s : State) :
    s.fetchInstr.2 = { s with
      pc := s.fetchInstr.2.pc, envBytes := s.fetchInstr.2.envBytes, drawCount := s.fetchInstr.2.drawCount } := by
  unfold State.fetchInstr
  dsimp only
  split
  · rw [State.fetch8_only]
  · split
    · rw [State.fetch8_only, State.fetch8_only]
    · rw [State.fetch8_only, State.fetch8_only, State.fetch8_only]

/-- A fetch from memory returns its byte. -/
theorem State.fetch8_memory {s : State} (h : s.kindAt s.pc ≠ .device) :
    s.fetch8 = (s.mem.read s.pc.toNat, { s with pc := s.pc + 1#16 }) := by
  simp [State.fetch8, State.memRead_memory h]

/-- Where the byte at PC is memory, the instruction fetched is one of that byte 1, wherever its further bytes are. -/
theorem State.fetchInstr_opcode {s : State} (h : s.kindAt s.pc ≠ .device) :
    ∃ b2 b3, s.fetchInstr.1 = decodeBytes (s.mem.read s.pc.toNat) b2 b3 := by
  unfold State.fetchInstr
  rw [State.fetch8_memory h]
  dsimp only
  split
  · exact ⟨_, _, rfl⟩
  · split <;> exact ⟨_, _, rfl⟩

/-- The instruction whose bytes, as many as are fetched, are memory: it is decoded from them, and PC is past them. -/
theorem State.fetchInstr_memory {s : State} {n : Nat}
    (hn : fetchLength s.params.undocOpcodes (s.mem.read s.pc.toNat) = n)
    (h : ∀ k, k < n → s.kindAt (s.pc + BitVec.ofNat 16 k) ≠ .device) :
    s.fetchInstr =
      (decodeBytes (s.mem.read s.pc.toNat)
        (if n = 1 then 0#8 else s.mem.read (s.pc + 1#16).toNat)
        (if n = 3 then s.mem.read (s.pc + 2#16).toNat else 0#8),
      { s with pc := s.pc + BitVec.ofNat 16 n }) := by
  have a2 : s.pc + 1#16 + 1#16 = s.pc + 2#16 := by bv_omega
  have a3 : s.pc + 2#16 + 1#16 = s.pc + 3#16 := by bv_omega
  have k0 : s.kindAt s.pc ≠ .device := by
    have := h 0 (by rcases fetchLength_cases s.params.undocOpcodes (s.mem.read s.pc.toNat) with e | e | e <;> omega)
    simpa using this
  unfold State.fetchInstr
  dsimp only
  rw [State.fetch8_memory k0]
  dsimp only
  rcases fetchLength_cases s.params.undocOpcodes (s.mem.read s.pc.toNat) with e | e | e <;> rw [e] at hn <;> subst hn
  · rw [if_pos e]; rfl
  · have k1 : State.kindAt { s with pc := s.pc + 1#16 } (s.pc + 1#16) ≠ .device := h 1 (by omega)
    rw [if_neg (by omega), if_pos e, State.fetch8_memory k1, a2]; rfl
  · have k1 : State.kindAt { s with pc := s.pc + 1#16 } (s.pc + 1#16) ≠ .device := h 1 (by omega)
    have k2 : State.kindAt { s with pc := s.pc + 2#16 } (s.pc + 2#16) ≠ .device := h 2 (by omega)
    rw [if_neg (by omega), if_neg (by omega), State.fetch8_memory k1, a2]
    dsimp only
    rw [State.fetch8_memory k2, a3]; rfl

end Sys2Proof.Machine
end

