-- ==== Sys2Proof/Laws/Flags.lean ====
section
/-!
SUPPORT. What each flag computation says, once, in numbers.
-/

namespace Sys2Proof.Machine

/-- Bit 7 of a byte is set exactly when its value is 128 or more. -/
theorem sign_iff (v : Byte) : v.getLsbD 7 = true ↔ 128 ≤ v.toNat := by
  revert v; decide

/-- The eight-bit addition: result and carry are the sum, AC is the carry out of the low digits (R130). -/
theorem add8_spec (x v : Byte) (k : Bool) :
    (add8 x v k).1.toNat + 256 * (add8 x v k).2.1.toNat = x.toNat + v.toNat + k.toNat ∧
      ((add8 x v k).2.2 = true ↔ 16 ≤ x.toNat % 16 + v.toNat % 16 + k.toNat) := by
  have h1 := x.isLt
  have h2 := v.isLt
  have h3 := k.toNat_lt
  refine ⟨?_, by simp [add8]⟩
  simp only [add8, BitVec.toNat_ofNat]
  by_cases h : 256 ≤ x.toNat + v.toNat + k.toNat <;> simp [h] <;> omega

/-- The eight-bit subtraction: result and CY are the difference and its borrow (R131). -/
theorem sub8_spec (mode : AcOnSubtract) (x v : Byte) (k : Bool) :
    (sub8 mode x v k).1.toNat + v.toNat + k.toNat = x.toNat + 256 * (sub8 mode x v k).2.1.toNat ∧
      ((sub8 mode x v k).2.1 = true ↔ x.toNat < v.toNat + k.toNat) := by
  have h1 := x.isLt
  have h2 := v.isLt
  have hn : (~~~v).toNat = 255 - v.toNat := by rw [BitVec.toNat_not]
  simp only [sub8, add8, hn, BitVec.toNat_ofNat]
  refine ⟨?_, ?_⟩
  · by_cases h : 256 ≤ x.toNat + (255 - v.toNat) + (!k).toNat <;> simp [h] <;> cases k <;> simp at * <;> omega
  · cases k <;> simp <;> omega

/-- AC of the subtraction: no borrow from bit 4, or a borrow, as AC_ON_SUBTRACT says (R131). -/
theorem sub8_auxCarry (mode : AcOnSubtract) (x v : Byte) (k : Bool) :
    (sub8 mode x v k).2.2 = true ↔ (match mode with
      | .carryOfComplementAdd => v.toNat % 16 + k.toNat ≤ x.toNat % 16
      | .borrow => x.toNat % 16 < v.toNat % 16 + k.toNat) := by
  have hn : (~~~v).toNat % 16 = 15 - v.toNat % 16 := by rw [BitVec.toNat_not]; omega
  cases mode <;> simp only [sub8, add8, hn] <;> cases k <;> simp <;> omega

/-- The flag byte gives each flag back at its bit (R27). -/
theorem State.flagByte_bits (s : State) :
    s.flagByte.getLsbD 7 = s.sf ∧ s.flagByte.getLsbD 6 = s.zf ∧ s.flagByte.getLsbD 4 = s.acf ∧
      s.flagByte.getLsbD 2 = s.pf ∧ s.flagByte.getLsbD 0 = s.cyf := by
  unfold State.flagByte
  cases s.sf <;> cases s.zf <;> cases s.acf <;> cases s.pf <;> cases s.cyf <;> decide

/-- The sixteen-bit sum and its carry (R146). -/
theorem add16_spec (x y : Word) : (add16 x y).1.toNat + 65536 * (add16 x y).2.toNat = x.toNat + y.toNat := by
  have h1 := x.isLt
  have h2 := y.isLt
  simp only [add16, BitVec.toNat_ofNat]
  by_cases h : 65536 ≤ x.toNat + y.toNat <;> simp [h] <;> omega

end Sys2Proof.Machine
end

