-- ==== Sys2Proof/Laws/PerInstr.lean ====
section
/-!
SUPPORT. The family `EncodedLength`, one lemma per constructor of `Instr`: the encoding of a well-formed instruction has
the length that the patterns of R83 give its byte 1.
-/

namespace Sys2Proof.Laws.EncodedLength

/-- The length of the encoding is the one byte 1 determines (R80, R83). -/
def Statement (i : Instr) : Prop :=
  i.wf = true → (encode i).length = opcodeLength ((encode i).headD 0#8)

theorem movRR (dst src : Reg) : Statement (.movRR dst src) := by
  cases dst <;> cases src <;> exact fun _ => by decide

theorem movRM (dst : Reg) : Statement (.movRM dst) := by
  cases dst <;> exact fun _ => by decide

theorem movMR (src : Reg) : Statement (.movMR src) := by
  cases src <;> exact fun _ => by decide

theorem mviR (dst : Reg) (n : Byte) : Statement (.mviR dst n) := by
  have : ∀ k : BitVec 3, opcodeLength (opcode233 0b00#2 k 0b110#3) = 2 := by decide
  exact fun _ => (this dst.code).symm

theorem mviM (n : Byte) : Statement (.mviM n) :=
  fun _ => (by decide : 2 = opcodeLength 0x36#8)

theorem lxi (rp : Pair) (nn : Word) : Statement (.lxi rp nn) := by
  have : ∀ k : BitVec 2, opcodeLength (opcode224 0b00#2 k 0b0001#4) = 3 := by decide
  exact fun _ => (this rp.code).symm

theorem lda (aa : Word) : Statement (.lda aa) :=
  fun _ => (by decide : 3 = opcodeLength 0x3A#8)

theorem sta (aa : Word) : Statement (.sta aa) :=
  fun _ => (by decide : 3 = opcodeLength 0x32#8)

theorem lhld (aa : Word) : Statement (.lhld aa) :=
  fun _ => (by decide : 3 = opcodeLength 0x2A#8)

theorem shld (aa : Word) : Statement (.shld aa) :=
  fun _ => (by decide : 3 = opcodeLength 0x22#8)

theorem ldax (rp : Pair) : Statement (.ldax rp) := by
  cases rp <;> first | exact fun h => absurd h (by decide) | exact fun _ => by decide

theorem stax (rp : Pair) : Statement (.stax rp) := by
  cases rp <;> first | exact fun h => absurd h (by decide) | exact fun _ => by decide

theorem sphl : Statement .sphl :=
  fun _ => (by decide : 1 = opcodeLength 0xF9#8)

theorem xchg : Statement .xchg :=
  fun _ => (by decide : 1 = opcodeLength 0xEB#8)

theorem add (src : Opd) : Statement (.add src) := by
  rcases src with q | _
  · cases q <;> exact fun _ => by decide
  · exact fun _ => by decide

theorem adc (src : Opd) : Statement (.adc src) := by
  rcases src with q | _
  · cases q <;> exact fun _ => by decide
  · exact fun _ => by decide

theorem sub (src : Opd) : Statement (.sub src) := by
  rcases src with q | _
  · cases q <;> exact fun _ => by decide
  · exact fun _ => by decide

theorem sbb (src : Opd) : Statement (.sbb src) := by
  rcases src with q | _
  · cases q <;> exact fun _ => by decide
  · exact fun _ => by decide

theorem ana (src : Opd) : Statement (.ana src) := by
  rcases src with q | _
  · cases q <;> exact fun _ => by decide
  · exact fun _ => by decide

theorem xra (src : Opd) : Statement (.xra src) := by
  rcases src with q | _
  · cases q <;> exact fun _ => by decide
  · exact fun _ => by decide

theorem ora (src : Opd) : Statement (.ora src) := by
  rcases src with q | _
  · cases q <;> exact fun _ => by decide
  · exact fun _ => by decide

theorem cmp (src : Opd) : Statement (.cmp src) := by
  rcases src with q | _
  · cases q <;> exact fun _ => by decide
  · exact fun _ => by decide

theorem adi (n : Byte) : Statement (.adi n) :=
  fun _ => (by decide : 2 = opcodeLength 0xC6#8)

theorem aci (n : Byte) : Statement (.aci n) :=
  fun _ => (by decide : 2 = opcodeLength 0xCE#8)

theorem sui (n : Byte) : Statement (.sui n) :=
  fun _ => (by decide : 2 = opcodeLength 0xD6#8)

theorem sbi (n : Byte) : Statement (.sbi n) :=
  fun _ => (by decide : 2 = opcodeLength 0xDE#8)

theorem ani (n : Byte) : Statement (.ani n) :=
  fun _ => (by decide : 2 = opcodeLength 0xE6#8)

theorem xri (n : Byte) : Statement (.xri n) :=
  fun _ => (by decide : 2 = opcodeLength 0xEE#8)

theorem ori (n : Byte) : Statement (.ori n) :=
  fun _ => (by decide : 2 = opcodeLength 0xF6#8)

theorem cpi (n : Byte) : Statement (.cpi n) :=
  fun _ => (by decide : 2 = opcodeLength 0xFE#8)

theorem inr (dst : Opd) : Statement (.inr dst) := by
  rcases dst with q | _
  · cases q <;> exact fun _ => by decide
  · exact fun _ => by decide

theorem dcr (dst : Opd) : Statement (.dcr dst) := by
  rcases dst with q | _
  · cases q <;> exact fun _ => by decide
  · exact fun _ => by decide

theorem inx (rp : Pair) : Statement (.inx rp) := by
  cases rp <;> exact fun _ => by decide

theorem dcx (rp : Pair) : Statement (.dcx rp) := by
  cases rp <;> exact fun _ => by decide

theorem dad (rp : Pair) : Statement (.dad rp) := by
  cases rp <;> exact fun _ => by decide

theorem daa : Statement .daa :=
  fun _ => (by decide : 1 = opcodeLength 0x27#8)

theorem cma : Statement .cma :=
  fun _ => (by decide : 1 = opcodeLength 0x2F#8)

theorem rlc : Statement .rlc :=
  fun _ => (by decide : 1 = opcodeLength 0x07#8)

theorem rrc : Statement .rrc :=
  fun _ => (by decide : 1 = opcodeLength 0x0F#8)

theorem ral : Statement .ral :=
  fun _ => (by decide : 1 = opcodeLength 0x17#8)

theorem rar : Statement .rar :=
  fun _ => (by decide : 1 = opcodeLength 0x1F#8)

theorem jmp (aa : Word) : Statement (.jmp aa) :=
  fun _ => (by decide : 3 = opcodeLength 0xC3#8)

theorem jnz (aa : Word) : Statement (.jnz aa) :=
  fun _ => (by decide : 3 = opcodeLength 0xC2#8)

theorem jz (aa : Word) : Statement (.jz aa) :=
  fun _ => (by decide : 3 = opcodeLength 0xCA#8)

theorem jnc (aa : Word) : Statement (.jnc aa) :=
  fun _ => (by decide : 3 = opcodeLength 0xD2#8)

theorem jc (aa : Word) : Statement (.jc aa) :=
  fun _ => (by decide : 3 = opcodeLength 0xDA#8)

theorem jpo (aa : Word) : Statement (.jpo aa) :=
  fun _ => (by decide : 3 = opcodeLength 0xE2#8)

theorem jpe (aa : Word) : Statement (.jpe aa) :=
  fun _ => (by decide : 3 = opcodeLength 0xEA#8)

theorem jp (aa : Word) : Statement (.jp aa) :=
  fun _ => (by decide : 3 = opcodeLength 0xF2#8)

theorem jm (aa : Word) : Statement (.jm aa) :=
  fun _ => (by decide : 3 = opcodeLength 0xFA#8)

theorem pchl : Statement .pchl :=
  fun _ => (by decide : 1 = opcodeLength 0xE9#8)

theorem call (aa : Word) : Statement (.call aa) :=
  fun _ => (by decide : 3 = opcodeLength 0xCD#8)

theorem cnz (aa : Word) : Statement (.cnz aa) :=
  fun _ => (by decide : 3 = opcodeLength 0xC4#8)

theorem cz (aa : Word) : Statement (.cz aa) :=
  fun _ => (by decide : 3 = opcodeLength 0xCC#8)

theorem cnc (aa : Word) : Statement (.cnc aa) :=
  fun _ => (by decide : 3 = opcodeLength 0xD4#8)

theorem cc (aa : Word) : Statement (.cc aa) :=
  fun _ => (by decide : 3 = opcodeLength 0xDC#8)

theorem cpo (aa : Word) : Statement (.cpo aa) :=
  fun _ => (by decide : 3 = opcodeLength 0xE4#8)

theorem cpe (aa : Word) : Statement (.cpe aa) :=
  fun _ => (by decide : 3 = opcodeLength 0xEC#8)

theorem cp (aa : Word) : Statement (.cp aa) :=
  fun _ => (by decide : 3 = opcodeLength 0xF4#8)

theorem cm (aa : Word) : Statement (.cm aa) :=
  fun _ => (by decide : 3 = opcodeLength 0xFC#8)

theorem rst (n : BitVec 3) : Statement (.rst n) := by
  have : ∀ k : BitVec 3, opcodeLength (opcode233 0b11#2 k 0b111#3) = 1 := by decide
  exact fun _ => (this n).symm

theorem ret : Statement .ret :=
  fun _ => (by decide : 1 = opcodeLength 0xC9#8)

theorem rnz : Statement .rnz :=
  fun _ => (by decide : 1 = opcodeLength 0xC0#8)

theorem rz : Statement .rz :=
  fun _ => (by decide : 1 = opcodeLength 0xC8#8)

theorem rnc : Statement .rnc :=
  fun _ => (by decide : 1 = opcodeLength 0xD0#8)

theorem rc : Statement .rc :=
  fun _ => (by decide : 1 = opcodeLength 0xD8#8)

theorem rpo : Statement .rpo :=
  fun _ => (by decide : 1 = opcodeLength 0xE0#8)

theorem rpe : Statement .rpe :=
  fun _ => (by decide : 1 = opcodeLength 0xE8#8)

theorem rp : Statement .rp :=
  fun _ => (by decide : 1 = opcodeLength 0xF0#8)

theorem rm : Statement .rm :=
  fun _ => (by decide : 1 = opcodeLength 0xF8#8)

theorem push (rp : Pair) : Statement (.push rp) := by
  cases rp <;> first | exact fun h => absurd h (by decide) | exact fun _ => by decide

theorem pushPsw : Statement .pushPsw :=
  fun _ => (by decide : 1 = opcodeLength 0xF5#8)

theorem pop (rp : Pair) : Statement (.pop rp) := by
  cases rp <;> first | exact fun h => absurd h (by decide) | exact fun _ => by decide

theorem popPsw : Statement .popPsw :=
  fun _ => (by decide : 1 = opcodeLength 0xF1#8)

theorem xthl : Statement .xthl :=
  fun _ => (by decide : 1 = opcodeLength 0xE3#8)

theorem stc : Statement .stc :=
  fun _ => (by decide : 1 = opcodeLength 0x37#8)

theorem cmc : Statement .cmc :=
  fun _ => (by decide : 1 = opcodeLength 0x3F#8)

theorem inPort (p : Byte) : Statement (.inPort p) :=
  fun _ => (by decide : 2 = opcodeLength 0xDB#8)

theorem outPort (p : Byte) : Statement (.outPort p) :=
  fun _ => (by decide : 2 = opcodeLength 0xD3#8)

theorem nop : Statement .nop :=
  fun _ => (by decide : 1 = opcodeLength 0x00#8)

theorem hlt : Statement .hlt :=
  fun _ => (by decide : 1 = opcodeLength 0x76#8)

theorem di : Statement .di :=
  fun _ => (by decide : 1 = opcodeLength 0xF3#8)

theorem ei : Statement .ei :=
  fun _ => (by decide : 1 = opcodeLength 0xFB#8)

theorem undoc08 : Statement .undoc08 :=
  fun _ => (by decide : 1 = opcodeLength 0x08#8)

theorem undoc10 : Statement .undoc10 :=
  fun _ => (by decide : 1 = opcodeLength 0x10#8)

theorem undoc18 : Statement .undoc18 :=
  fun _ => (by decide : 1 = opcodeLength 0x18#8)

theorem undoc20 : Statement .undoc20 :=
  fun _ => (by decide : 1 = opcodeLength 0x20#8)

theorem undoc28 : Statement .undoc28 :=
  fun _ => (by decide : 1 = opcodeLength 0x28#8)

theorem undoc30 : Statement .undoc30 :=
  fun _ => (by decide : 1 = opcodeLength 0x30#8)

theorem undoc38 : Statement .undoc38 :=
  fun _ => (by decide : 1 = opcodeLength 0x38#8)

theorem undocCB (aa : Word) : Statement (.undocCB aa) :=
  fun _ => (by decide : 3 = opcodeLength 0xCB#8)

theorem undocD9 : Statement .undocD9 :=
  fun _ => (by decide : 1 = opcodeLength 0xD9#8)

theorem undocDD (aa : Word) : Statement (.undocDD aa) :=
  fun _ => (by decide : 3 = opcodeLength 0xDD#8)

theorem undocED (aa : Word) : Statement (.undocED aa) :=
  fun _ => (by decide : 3 = opcodeLength 0xED#8)

theorem undocFD (aa : Word) : Statement (.undocFD aa) :=
  fun _ => (by decide : 3 = opcodeLength 0xFD#8)

end Sys2Proof.Laws.EncodedLength
end

