-- ==== Sys2Proof/Tests/Slice0.lean ====
section
/-!
SUPPORT. The model's own tests. The expected values are the spec's: the vectors T and the sequences I of
`95_test_vectors.md`, or, where it has none for an instruction, worked from the cited rule by hand. After them stand the
witnesses: for each statement with hypotheses, a concrete state and operands that meet them together.
-/

open Sys2Proof Sys2Proof.Machine

/-- The five flags, in the order S Z AC P CY. -/
def Sys2Proof.Machine.State.flags (s : State) : List Bool := [s.sf, s.zf, s.acf, s.pf, s.cyf]

/-- One step from `s` gives a next state of which `p` holds. -/
def leads (s : State) (p : State → State → Bool) : Bool :=
  match step s with
  | .next t => p s t
  | .fault _ => false
  | .refused _ => false

/-- The step from `s` is refused with this reason, whose state is told from `s`. -/
def refuses (s : State) (r : State → Refusal) : Bool :=
  match step s with
  | .next _ => false
  | .fault _ => false
  | .refused r' => r' == r s

/-- The state after reset, but for UNDOC_OPCODES at its second value. -/
def siliconReset : State := { State.reset with params := { Params.initial with undocOpcodes := .asSilicon } }

/-- The state after reset, but for INT_INJECTED_INSTRUCTION at its second value. -/
def anyReset : State := { State.reset with params := { Params.initial with intInjected := .any } }

/-- Every word of the list decodes to the instruction beside it, with no byte over. -/
def decodes (l : List (List Byte × Instr)) : Bool :=
  l.all fun p => match decode p.1 with
    | .ok (i, rest) => i == p.2 && rest == []
    | .error _ => false

/-- The decoder refuses these bytes with this reason. -/
def refusesBytes (l : List Byte) (e : DecodeError) : Bool :=
  match decode l with
  | .ok _ => false
  | .error e' => e' == e

/-! ## Well-formedness: each ill-formed term is refused -/

theorem test_wf_ldax_hl : (Instr.ldax .hl).wf = false := by decide

theorem test_wf_ldax_sp : (Instr.ldax .sp).wf = false := by decide

theorem test_wf_stax_hl : (Instr.stax .hl).wf = false := by decide

theorem test_wf_stax_sp : (Instr.stax .sp).wf = false := by decide

theorem test_wf_push_sp : (Instr.push .sp).wf = false := by decide

theorem test_wf_pop_sp : (Instr.pop .sp).wf = false := by decide

/-! ## Decoding: one word of every constructor, written out from R81, R84 to R87 and R91 -/

theorem test_decode_transfer : decodes [
    ([0b01001010], .movRR .c .d), ([0b01011110], .movRM .e), ([0b01110011], .movMR .e),
    ([0b00111110, 0x5A], .mviR .a 0x5A), ([0b00110110, 0xFF], .mviM 0xFF),
    ([0b00110001, 0xBC, 0x3A], .lxi .sp 0x3ABC), ([0b00111010, 0x00, 0x03], .lda 0x0300),
    ([0b00110010, 0xB3, 0x05], .sta 0x05B3), ([0b00101010, 0x5B, 0x02], .lhld 0x025B),
    ([0b00100010, 0x0A, 0x01], .shld 0x010A), ([0b00011010], .ldax .de), ([0b00000010], .stax .bc),
    ([0b11111001], .sphl), ([0b11101011], .xchg)] := by decide

theorem test_decode_arithmetic : decodes [
    ([0b10000000], .add (.reg .b)), ([0b10001110], .adc .m), ([0b10010101], .sub (.reg .l)),
    ([0b10011111], .sbb (.reg .a)), ([0b10111010], .cmp (.reg .d)),
    ([0b11000110, 0x42], .adi 0x42), ([0b11001110, 0x42], .aci 0x42), ([0b11010110, 0x42], .sui 0x42),
    ([0b11011110, 0x42], .sbi 0x42), ([0b11111110, 0x42], .cpi 0x42),
    ([0b00100100], .inr (.reg .h)), ([0b00110101], .dcr .m), ([0b00010011], .inx .de),
    ([0b00111011], .dcx .sp), ([0b00001001], .dad .bc), ([0b00100111], .daa)] := by decide

theorem test_decode_logical_and_rotate : decodes [
    ([0b10100011], .ana (.reg .e)), ([0b10101100], .xra (.reg .h)), ([0b10110001], .ora (.reg .c)),
    ([0b11100110, 0x0F], .ani 0x0F), ([0b11101110, 0x81], .xri 0x81), ([0b11110110, 0x0F], .ori 0x0F),
    ([0b00101111], .cma), ([0b00000111], .rlc), ([0b00001111], .rrc), ([0b00010111], .ral),
    ([0b00011111], .rar)] := by decide

theorem test_decode_jump : decodes [
    ([0b11000011, 0x34, 0x12], .jmp 0x1234), ([0b11000010, 0x34, 0x12], .jnz 0x1234),
    ([0b11001010, 0x34, 0x12], .jz 0x1234), ([0b11010010, 0x34, 0x12], .jnc 0x1234),
    ([0b11011010, 0x34, 0x12], .jc 0x1234), ([0b11100010, 0x34, 0x12], .jpo 0x1234),
    ([0b11101010, 0x34, 0x12], .jpe 0x1234), ([0b11110010, 0x34, 0x12], .jp 0x1234),
    ([0b11111010, 0x34, 0x12], .jm 0x1234), ([0b11101001], .pchl)] := by decide

theorem test_decode_call_and_return : decodes [
    ([0b11001101, 0x34, 0x12], .call 0x1234), ([0b11000100, 0x34, 0x12], .cnz 0x1234),
    ([0b11001100, 0x34, 0x12], .cz 0x1234), ([0b11010100, 0x34, 0x12], .cnc 0x1234),
    ([0b11011100, 0x34, 0x12], .cc 0x1234), ([0b11100100, 0x34, 0x12], .cpo 0x1234),
    ([0b11101100, 0x34, 0x12], .cpe 0x1234), ([0b11110100, 0x34, 0x12], .cp 0x1234),
    ([0b11111100, 0x34, 0x12], .cm 0x1234), ([0b11101111], .rst 5),
    ([0b11001001], .ret), ([0b11000000], .rnz), ([0b11001000], .rz), ([0b11010000], .rnc), ([0b11011000], .rc),
    ([0b11100000], .rpo), ([0b11101000], .rpe), ([0b11110000], .rp), ([0b11111000], .rm)] := by decide

theorem test_decode_stack_and_control : decodes [
    ([0b11010101], .push .de), ([0b11110101], .pushPsw), ([0b11100001], .pop .hl), ([0b11110001], .popPsw),
    ([0b11100011], .xthl), ([0b00110111], .stc), ([0b00111111], .cmc), ([0b11011011, 0x10], .inPort 0x10),
    ([0b11010011, 0x01], .outPort 0x01), ([0b00000000], .nop), ([0b01110110], .hlt), ([0b11110011], .di),
    ([0b11111011], .ei)] := by decide

theorem test_decode_undocumented : decodes [
    ([0x08], .undoc08), ([0x10], .undoc10), ([0x18], .undoc18), ([0x20], .undoc20), ([0x28], .undoc28),
    ([0x30], .undoc30), ([0x38], .undoc38), ([0xCB, 0x34, 0x12], .undocCB 0x1234), ([0xD9], .undocD9),
    ([0xDD, 0x34, 0x12], .undocDD 0x1234), ([0xED, 0x34, 0x12], .undocED 0x1234),
    ([0xFD, 0x34, 0x12], .undocFD 0x1234)] := by decide

/-- Too few bytes are refused by name. -/
theorem test_decode_nothing : refusesBytes [] .noOpcode := by decide

theorem test_decode_truncated : refusesBytes [0xC3, 0x00] (.missingOperand 0xC3) := by decide

/-- LXI SP,3ABCh as the opcode table numbers its bits: byte 1 is bits 7:0. -/
theorem test_decode_table_word : decodeTableWord 24 0x3ABC31 = some (.lxi .sp 0x3ABC) := by decide

/-- The same word runs as the first instruction after reset. -/
theorem test_fetch_word :
  leads (State.reset.withFetchWord 24 0x3ABC31) fun _ t => t.sp == 0x3ABC && t.pc == 0x0003 := by decide

/-- A fetched word runs where the memory map makes PC a device too. -/
theorem test_fetch_word_device :
  leads (State.withFetchWord { State.reset with
      halted := true, inputs := [{ StepInputs.quiet with reset := true }],
      params := { Params.initial with memoryMap := [{ base := 0, size := 65536, kind := .device }] } } 16 0x5A3E)
    fun _ t => t.a == 0x5A && t.pc == 0x0002 := by decide

/-! ## One step of every instruction -/

/-- T1: MOV B,C (R110). -/
theorem test_movRR :
  leads { State.reset with pc := 0x0100, b := 0x11, c := 0x22, mem := [(0x0100, 0x41)] }
    fun s t => t.b == 0x22 && t.c == 0x22 && t.flags == [false, false, false, false, false] && t.pc == 0x0101 &&
      t.mem == s.mem := by decide

/-- T5: MOV H,M (R111). -/
theorem test_movRM :
  leads { State.reset with pc := 0x0100, h := 0x10, mem := [(0x0100, 0x66), (0x1000, 0x9D)] }
    fun s t => t.h == 0x9D && t.l == 0x00 && t.flags == [false, false, false, false, false] && t.pc == 0x0101 &&
      t.mem == s.mem := by decide

/-- T6: MOV M,H (R112). -/
theorem test_movMR :
  leads { State.reset with pc := 0x0100, h := 0x10, mem := [(0x0100, 0x74)] }
    fun _ t => t.h == 0x10 && t.l == 0x00 && t.flags == [false, false, false, false, false] && t.pc == 0x0101 &&
      t.peek 0x1000 == 0x10 := by decide

/-- T7: MVI H,3Ch (R113). -/
theorem test_mviR :
  leads { State.reset with pc := 0x0100, mem := [(0x0100, 0x26), (0x0101, 0x3C)] }
    fun s t => t.h == 0x3C && t.flags == [false, false, false, false, false] && t.pc == 0x0102 &&
      t.mem == s.mem := by decide

/-- T8: MVI M,FFh (R114). -/
theorem test_mviM :
  leads { State.reset with pc := 0x0100, h := 0x3C, l := 0xF4, mem := [(0x0100, 0x36), (0x0101, 0xFF)] }
    fun _ t => t.h == 0x3C && t.l == 0xF4 && t.flags == [false, false, false, false, false] && t.pc == 0x0102 &&
      t.peek 0x3CF4 == 0xFF := by decide

/-- T9: LXI H,0103h (R115). -/
theorem test_lxi :
  leads { State.reset with pc := 0x0100, mem := [(0x0100, 0x21), (0x0101, 0x03), (0x0102, 0x01)] }
    fun s t => t.h == 0x01 && t.l == 0x03 && t.flags == [false, false, false, false, false] && t.pc == 0x0103 &&
      t.mem == s.mem := by decide

/-- T10: LXI SP,3ABCh (R115). -/
theorem test_lxi_2 :
  leads { State.reset with pc := 0x0100, mem := [(0x0100, 0x31), (0x0101, 0xBC), (0x0102, 0x3A)] }
    fun s t => t.sp == 0x3ABC && t.flags == [false, false, false, false, false] && t.pc == 0x0103 &&
      t.mem == s.mem := by decide

/-- T11: LDA 0300h (R116). -/
theorem test_lda :
  leads { State.reset with pc := 0x0100, mem := [(0x0100, 0x3A), (0x0102, 0x03), (0x0300, 0x0B)] }
    fun s t => t.a == 0x0B && t.flags == [false, false, false, false, false] && t.pc == 0x0103 &&
      t.mem == s.mem := by decide

/-- T12: STA 05B3h (R117). -/
theorem test_sta :
  leads { State.reset with pc := 0x0100, a := 0xC4, mem := [(0x0100, 0x32), (0x0101, 0xB3), (0x0102, 0x05)] }
    fun _ t => t.a == 0xC4 && t.flags == [false, false, false, false, false] && t.pc == 0x0103 &&
      t.peek 0x05B3 == 0xC4 := by decide

/-- T13: LHLD 025Bh (R118). -/
theorem test_lhld :
  leads { State.reset with
      pc := 0x0100, mem := [(0x0100, 0x2A), (0x0101, 0x5B), (0x0102, 0x02), (0x025B, 0xFF), (0x025C, 0x03)] }
    fun s t => t.h == 0x03 && t.l == 0xFF && t.flags == [false, false, false, false, false] && t.pc == 0x0103 &&
      t.mem == s.mem := by decide

/-- T14: LHLD FFFFh (R118). -/
theorem test_lhld_2 :
  leads { State.reset with
      pc := 0x0000, mem := [(0x0000, 0x2A), (0x0001, 0xFF), (0x0002, 0xFF), (0xFFFF, 0x11)] }
    fun s t => t.h == 0x2A && t.l == 0x11 && t.flags == [false, false, false, false, false] && t.pc == 0x0003 &&
      t.mem == s.mem := by decide

/-- T15: SHLD 010Ah (R119). -/
theorem test_shld :
  leads { State.reset with
      pc := 0x0200, h := 0xAE, l := 0x29, mem := [(0x0200, 0x22), (0x0201, 0x0A), (0x0202, 0x01)] }
    fun _ t => t.h == 0xAE && t.l == 0x29 && t.flags == [false, false, false, false, false] && t.pc == 0x0203 &&
      t.peek 0x010A == 0x29 && t.peek 0x010B == 0xAE := by decide

/-- T16: SHLD FFFFh (R119). -/
theorem test_shld_2 :
  leads { State.reset with
      pc := 0x0200, h := 0xAE, l := 0x29, mem := [(0x0200, 0x22), (0x0201, 0xFF), (0x0202, 0xFF)] }
    fun _ t => t.h == 0xAE && t.l == 0x29 && t.flags == [false, false, false, false, false] && t.pc == 0x0203 &&
      t.peek 0xFFFF == 0x29 && t.peek 0x0000 == 0xAE := by decide

/-- T17: LDAX D (R120). -/
theorem test_ldax :
  leads { State.reset with pc := 0x0100, d := 0x93, e := 0x8B, mem := [(0x0100, 0x1A), (0x938B, 0x41)] }
    fun s t => t.d == 0x93 && t.e == 0x8B && t.a == 0x41 && t.flags == [false, false, false, false, false] &&
      t.pc == 0x0101 && t.mem == s.mem := by decide

/-- T18: LDAX B (R120). -/
theorem test_ldax_2 :
  leads { State.reset with pc := 0x0100, b := 0x02, mem := [(0x0100, 0x0A), (0x0200, 0x7E)] }
    fun s t => t.b == 0x02 && t.c == 0x00 && t.a == 0x7E && t.flags == [false, false, false, false, false] &&
      t.pc == 0x0101 && t.mem == s.mem := by decide

/-- T19: STAX B (R121). -/
theorem test_stax :
  leads { State.reset with pc := 0x0100, b := 0x3F, c := 0x16, a := 0x99, mem := [(0x0100, 0x02)] }
    fun _ t => t.b == 0x3F && t.c == 0x16 && t.a == 0x99 && t.flags == [false, false, false, false, false] &&
      t.pc == 0x0101 && t.peek 0x3F16 == 0x99 := by decide

/-- T20: STAX D (R121). -/
theorem test_stax_2 :
  leads { State.reset with pc := 0x0100, d := 0x02, e := 0x01, a := 0x55, mem := [(0x0100, 0x12)] }
    fun _ t => t.d == 0x02 && t.e == 0x01 && t.a == 0x55 && t.flags == [false, false, false, false, false] &&
      t.pc == 0x0101 && t.peek 0x0201 == 0x55 := by decide

/-- T21: SPHL (R122). -/
theorem test_sphl :
  leads { State.reset with pc := 0x0100, h := 0x50, l := 0x6C, sp := 0x1234, mem := [(0x0100, 0xF9)] }
    fun s t => t.h == 0x50 && t.l == 0x6C && t.sp == 0x506C && t.flags == [false, false, false, false, false] &&
      t.pc == 0x0101 && t.mem == s.mem := by decide

/-- T22: XCHG (R123). -/
theorem test_xchg :
  leads { State.reset with pc := 0x0100, l := 0xFF, d := 0x33, e := 0x55, mem := [(0x0100, 0xEB)] }
    fun s t => t.d == 0x00 && t.e == 0xFF && t.h == 0x33 && t.l == 0x55 &&
      t.flags == [false, false, false, false, false] && t.pc == 0x0101 && t.mem == s.mem := by decide

/-- T24: ADD B (R132). -/
theorem test_add :
  leads { State.reset with pc := 0x0100, a := 0xFF, b := 0x01, mem := [(0x0100, 0x80)] }
    fun s t => t.a == 0x00 && t.b == 0x01 && t.flags == [false, true, true, true, true] && t.pc == 0x0101 &&
      t.mem == s.mem := by decide

/-- T26: ADD M (R132). -/
theorem test_add_2 :
  leads { State.reset with pc := 0x0100, a := 0x10, h := 0x20, mem := [(0x0100, 0x86), (0x2000, 0x22)] }
    fun s t => t.h == 0x20 && t.l == 0x00 && t.a == 0x32 && t.flags == [false, false, false, false, false] &&
      t.pc == 0x0101 && t.mem == s.mem := by decide

/-- T28: ADI 42h (R133). -/
theorem test_adi :
  leads { State.reset with pc := 0x0100, a := 0x14, mem := [(0x0100, 0xC6), (0x0101, 0x42)] }
    fun s t => t.a == 0x56 && t.flags == [false, false, false, true, false] && t.pc == 0x0102 &&
      t.mem == s.mem := by decide

/-- T29: ADC C (R134). -/
theorem test_adc :
  leads { State.reset with pc := 0x0100, a := 0x42, c := 0x3D, cyf := true, mem := [(0x0100, 0x89)] }
    fun s t => t.a == 0x80 && t.c == 0x3D && t.flags == [true, false, true, false, false] && t.pc == 0x0101 &&
      t.mem == s.mem := by decide

/-- T30: ADC C (R134). -/
theorem test_adc_2 :
  leads { State.reset with pc := 0x0100, a := 0x42, c := 0x3D, mem := [(0x0100, 0x89)] }
    fun s t => t.a == 0x7F && t.c == 0x3D && t.flags == [false, false, false, false, false] && t.pc == 0x0101 &&
      t.mem == s.mem := by decide

/-- T31: ACI FFh (R135). -/
theorem test_aci :
  leads { State.reset with pc := 0x0100, cyf := true, mem := [(0x0100, 0xCE), (0x0101, 0xFF)] }
    fun s t => t.a == 0x00 && t.flags == [false, true, true, true, true] && t.pc == 0x0102 &&
      t.mem == s.mem := by decide

/-- T33: SUB B (R136). -/
theorem test_sub :
  leads { State.reset with pc := 0x0100, b := 0x01, mem := [(0x0100, 0x90)] }
    fun s t => t.a == 0xFF && t.b == 0x01 && t.flags == [true, false, false, true, true] && t.pc == 0x0101 &&
      t.mem == s.mem := by decide

/-- T32: SUB A (R136). -/
theorem test_sub_2 :
  leads { State.reset with pc := 0x0100, a := 0x3E, cyf := true, mem := [(0x0100, 0x97)] }
    fun s t => t.a == 0x00 && t.flags == [false, true, true, true, false] && t.pc == 0x0101 &&
      t.mem == s.mem := by decide

/-- T34: SUI 01h (R137). -/
theorem test_sui :
  leads { State.reset with pc := 0x0100, a := 0x10, mem := [(0x0100, 0xD6), (0x0101, 0x01)] }
    fun s t => t.a == 0x0F && t.flags == [false, false, false, true, false] && t.pc == 0x0102 &&
      t.mem == s.mem := by decide

/-- T35: SUI 01h (R137). -/
theorem test_sui_2 :
  leads { State.reset with pc := 0x0100, a := 0x80, mem := [(0x0100, 0xD6), (0x0101, 0x01)] }
    fun s t => t.a == 0x7F && t.flags == [false, false, false, false, false] && t.pc == 0x0102 &&
      t.mem == s.mem := by decide

/-- T36: SBB L (R138). -/
theorem test_sbb :
  leads { State.reset with pc := 0x0100, a := 0x04, l := 0x02, cyf := true, mem := [(0x0100, 0x9D)] }
    fun s t => t.a == 0x01 && t.l == 0x02 && t.flags == [false, false, true, false, false] && t.pc == 0x0101 &&
      t.mem == s.mem := by decide

/-- T37: SBB B (R138). -/
theorem test_sbb_2 :
  leads { State.reset with pc := 0x0100, b := 0xFF, cyf := true, mem := [(0x0100, 0x98)] }
    fun s t => t.a == 0x00 && t.b == 0xFF && t.flags == [false, true, false, true, true] && t.pc == 0x0101 &&
      t.mem == s.mem := by decide

/-- T38: SBI 00h (R139). -/
theorem test_sbi :
  leads { State.reset with pc := 0x0100, cyf := true, mem := [(0x0100, 0xDE)] }
    fun s t => t.a == 0xFF && t.flags == [true, false, false, true, true] && t.pc == 0x0102 &&
      t.mem == s.mem := by decide

/-- T40: CMP E (R140). -/
theorem test_cmp :
  leads { State.reset with pc := 0x0100, a := 0x02, e := 0x05, mem := [(0x0100, 0xBB)] }
    fun s t => t.a == 0x02 && t.e == 0x05 && t.flags == [true, false, false, false, true] && t.pc == 0x0101 &&
      t.mem == s.mem := by decide

/-- T43: CMP M (R140). -/
theorem test_cmp_2 :
  leads { State.reset with pc := 0x0100, a := 0x10, h := 0x20, mem := [(0x0100, 0xBE), (0x2000, 0x10)] }
    fun s t => t.h == 0x20 && t.l == 0x00 && t.a == 0x10 && t.flags == [false, true, true, true, false] &&
      t.pc == 0x0101 && t.mem == s.mem := by decide

/-- T44: CPI 40h (R141). -/
theorem test_cpi :
  leads { State.reset with pc := 0x0100, a := 0x4A, mem := [(0x0100, 0xFE), (0x0101, 0x40)] }
    fun s t => t.a == 0x4A && t.flags == [false, false, true, true, false] && t.pc == 0x0102 &&
      t.mem == s.mem := by decide

/-- T45: CPI 80h (R141). -/
theorem test_cpi_2 :
  leads { State.reset with pc := 0x0100, a := 0x7F, mem := [(0x0100, 0xFE), (0x0101, 0x80)] }
    fun s t => t.a == 0x7F && t.flags == [true, false, true, true, true] && t.pc == 0x0102 &&
      t.mem == s.mem := by decide

/-- T46: INR C (R142). -/
theorem test_inr :
  leads { State.reset with pc := 0x0100, c := 0xFF, cyf := true, mem := [(0x0100, 0x0C)] }
    fun s t => t.c == 0x00 && t.flags == [false, true, true, true, true] && t.pc == 0x0101 &&
      t.mem == s.mem := by decide

/-- T48: INR M (R142). -/
theorem test_inr_2 :
  leads { State.reset with pc := 0x0100, h := 0x20, mem := [(0x0100, 0x34), (0x2000, 0x0F)] }
    fun _ t => t.h == 0x20 && t.l == 0x00 && t.flags == [false, false, true, false, false] && t.pc == 0x0101 &&
      t.peek 0x2000 == 0x10 := by decide

/-- T49: DCR B (R143). -/
theorem test_dcr :
  leads { State.reset with pc := 0x0100, mem := [(0x0100, 0x05)] }
    fun s t => t.b == 0xFF && t.flags == [true, false, false, true, false] && t.pc == 0x0101 &&
      t.mem == s.mem := by decide

/-- T51: DCR M (R143). -/
theorem test_dcr_2 :
  leads { State.reset with pc := 0x0100, h := 0x20, mem := [(0x0100, 0x35), (0x2000, 0x10)] }
    fun _ t => t.h == 0x20 && t.l == 0x00 && t.flags == [false, false, false, true, false] && t.pc == 0x0101 &&
      t.peek 0x2000 == 0x0F := by decide

/-- T52: INX H (R144). -/
theorem test_inx :
  leads { State.reset with pc := 0x0100, h := 0xFF, l := 0xFF, mem := [(0x0100, 0x23)] }
    fun s t => t.h == 0x00 && t.l == 0x00 && t.flags == [false, false, false, false, false] && t.pc == 0x0101 &&
      t.mem == s.mem := by decide

/-- T54: INX SP (R144). -/
theorem test_inx_2 :
  leads { State.reset with pc := 0x0100, sp := 0xFFFF, mem := [(0x0100, 0x33)] }
    fun s t => t.sp == 0x0000 && t.flags == [false, false, false, false, false] && t.pc == 0x0101 &&
      t.mem == s.mem := by decide

/-- T55: DCX B (R145). -/
theorem test_dcx :
  leads { State.reset with pc := 0x0100, mem := [(0x0100, 0x0B)] }
    fun s t => t.b == 0xFF && t.c == 0xFF && t.flags == [false, false, false, false, false] && t.pc == 0x0101 &&
      t.mem == s.mem := by decide

/-- T57: DCX SP (R145). -/
theorem test_dcx_2 :
  leads { State.reset with pc := 0x0100, mem := [(0x0100, 0x3B)] }
    fun s t => t.sp == 0xFFFF && t.flags == [false, false, false, false, false] && t.pc == 0x0101 &&
      t.mem == s.mem := by decide

/-- T58: DAD B (R146). -/
theorem test_dad :
  leads { State.reset with pc := 0x0100, b := 0x33, c := 0x9F, h := 0xA1, l := 0x7B, mem := [(0x0100, 0x09)] }
    fun s t => t.b == 0x33 && t.c == 0x9F && t.h == 0xD5 && t.l == 0x1A &&
      t.flags == [false, false, false, false, false] && t.pc == 0x0101 && t.mem == s.mem := by decide

/-- T59: DAD H (R146). -/
theorem test_dad_2 :
  leads { State.reset with pc := 0x0100, h := 0x80, sf := true, mem := [(0x0100, 0x29)] }
    fun s t => t.h == 0x00 && t.l == 0x00 && t.flags == [true, false, false, false, true] && t.pc == 0x0101 &&
      t.mem == s.mem := by decide

/-- T62: DAA (R147). -/
theorem test_daa :
  leads { State.reset with pc := 0x0100, a := 0x9B, mem := [(0x0100, 0x27)] }
    fun s t => t.a == 0x01 && t.flags == [false, false, true, false, true] && t.pc == 0x0101 &&
      t.mem == s.mem := by decide

/-- T70: DAA (R147). -/
theorem test_daa_2 :
  leads { State.reset with pc := 0x0100, a := 0x94, acf := true, mem := [(0x0100, 0x27)] }
    fun s t => t.a == 0x9A && t.flags == [true, false, false, true, false] && t.pc == 0x0101 &&
      t.mem == s.mem := by decide

/-- T71: ANA C (R160). -/
theorem test_ana :
  leads { State.reset with pc := 0x0100, a := 0xFC, c := 0x0F, cyf := true, mem := [(0x0100, 0xA1)] }
    fun s t => t.a == 0x0C && t.c == 0x0F && t.flags == [false, false, true, true, false] && t.pc == 0x0101 &&
      t.mem == s.mem := by decide

/-- T72: ANA B (R160). -/
theorem test_ana_2 :
  leads { State.reset with pc := 0x0100, a := 0xF0, b := 0x07, mem := [(0x0100, 0xA0)] }
    fun s t => t.a == 0x00 && t.b == 0x07 && t.flags == [false, true, false, true, false] && t.pc == 0x0101 &&
      t.mem == s.mem := by decide

/-- T75: ANI 0Fh (R161). -/
theorem test_ani :
  leads { State.reset with pc := 0x0100, a := 0x3A, cyf := true, mem := [(0x0100, 0xE6), (0x0101, 0x0F)] }
    fun s t => t.a == 0x0A && t.flags == [false, false, true, true, false] && t.pc == 0x0102 &&
      t.mem == s.mem := by decide

/-- T76: ORA C (R162). -/
theorem test_ora :
  leads { State.reset with
      pc := 0x0100, a := 0x33, c := 0x0F, acf := true, cyf := true, mem := [(0x0100, 0xB1)] }
    fun s t => t.a == 0x3F && t.c == 0x0F && t.flags == [false, false, false, true, false] && t.pc == 0x0101 &&
      t.mem == s.mem := by decide

/-- T77: ORA M (R162). -/
theorem test_ora_2 :
  leads { State.reset with pc := 0x0100, h := 0x20, mem := [(0x0100, 0xB6), (0x2000, 0x80)] }
    fun s t => t.h == 0x20 && t.l == 0x00 && t.a == 0x80 && t.flags == [true, false, false, false, false] &&
      t.pc == 0x0101 && t.mem == s.mem := by decide

/-- T78: ORI 0Fh (R163). -/
theorem test_ori :
  leads { State.reset with pc := 0x0100, a := 0xB5, mem := [(0x0100, 0xF6), (0x0101, 0x0F)] }
    fun s t => t.a == 0xBF && t.flags == [true, false, false, false, false] && t.pc == 0x0102 &&
      t.mem == s.mem := by decide

/-- T79: XRA A (R164). -/
theorem test_xra :
  leads { State.reset with pc := 0x0100, a := 0x5C, acf := true, cyf := true, mem := [(0x0100, 0xAF)] }
    fun s t => t.a == 0x00 && t.flags == [false, true, false, true, false] && t.pc == 0x0101 &&
      t.mem == s.mem := by decide

/-- T80: XRA B (R164). -/
theorem test_xra_2 :
  leads { State.reset with pc := 0x0100, a := 0xFF, b := 0x0F, mem := [(0x0100, 0xA8)] }
    fun s t => t.a == 0xF0 && t.b == 0x0F && t.flags == [true, false, false, true, false] && t.pc == 0x0101 &&
      t.mem == s.mem := by decide

/-- T81: XRI 81h (R165). -/
theorem test_xri :
  leads { State.reset with pc := 0x0100, a := 0x3B, mem := [(0x0100, 0xEE), (0x0101, 0x81)] }
    fun s t => t.a == 0xBA && t.flags == [true, false, false, false, false] && t.pc == 0x0102 &&
      t.mem == s.mem := by decide

/-- T82: CMA (R166). -/
theorem test_cma :
  leads { State.reset with
      pc := 0x0100, a := 0x51, sf := true, zf := true, acf := true, pf := true, cyf := true,
      mem := [(0x0100, 0x2F)] }
    fun s t => t.a == 0xAE && t.flags == [true, true, true, true, true] && t.pc == 0x0101 &&
      t.mem == s.mem := by decide

/-- T84: RLC (R171). -/
theorem test_rlc :
  leads { State.reset with pc := 0x0100, a := 0xF2, mem := [(0x0100, 0x07)] }
    fun s t => t.a == 0xE5 && t.flags == [false, false, false, false, true] && t.pc == 0x0101 &&
      t.mem == s.mem := by decide

/-- T85: RLC (R171). -/
theorem test_rlc_2 :
  leads { State.reset with pc := 0x0100, a := 0x01, cyf := true, mem := [(0x0100, 0x07)] }
    fun s t => t.a == 0x02 && t.flags == [false, false, false, false, false] && t.pc == 0x0101 &&
      t.mem == s.mem := by decide

/-- T86: RRC (R172). -/
theorem test_rrc :
  leads { State.reset with pc := 0x0100, a := 0xF2, cyf := true, mem := [(0x0100, 0x0F)] }
    fun s t => t.a == 0x79 && t.flags == [false, false, false, false, false] && t.pc == 0x0101 &&
      t.mem == s.mem := by decide

/-- T87: RRC (R172). -/
theorem test_rrc_2 :
  leads { State.reset with pc := 0x0100, a := 0x01, mem := [(0x0100, 0x0F)] }
    fun s t => t.a == 0x80 && t.flags == [false, false, false, false, true] && t.pc == 0x0101 &&
      t.mem == s.mem := by decide

/-- T88: RAL (R173). -/
theorem test_ral :
  leads { State.reset with pc := 0x0100, a := 0xB5, mem := [(0x0100, 0x17)] }
    fun s t => t.a == 0x6A && t.flags == [false, false, false, false, true] && t.pc == 0x0101 &&
      t.mem == s.mem := by decide

/-- T89: RAL (R173). -/
theorem test_ral_2 :
  leads { State.reset with pc := 0x0100, cyf := true, mem := [(0x0100, 0x17)] }
    fun s t => t.a == 0x01 && t.flags == [false, false, false, false, false] && t.pc == 0x0101 &&
      t.mem == s.mem := by decide

/-- T90: RAR (R174). -/
theorem test_rar :
  leads { State.reset with pc := 0x0100, a := 0x6A, cyf := true, mem := [(0x0100, 0x1F)] }
    fun s t => t.a == 0xB5 && t.flags == [false, false, false, false, false] && t.pc == 0x0101 &&
      t.mem == s.mem := by decide

/-- T91: RAR (R174). -/
theorem test_rar_2 :
  leads { State.reset with pc := 0x0100, a := 0x01, mem := [(0x0100, 0x1F)] }
    fun s t => t.a == 0x00 && t.flags == [false, false, false, false, true] && t.pc == 0x0101 &&
      t.mem == s.mem := by decide

/-- T92: JMP 3E00h (R182). -/
theorem test_jmp :
  leads { State.reset with pc := 0x0100, mem := [(0x0100, 0xC3), (0x0102, 0x3E)] }
    fun s t => t.flags == [false, false, false, false, false] && t.pc == 0x3E00 && t.mem == s.mem := by decide

/-- T93: JNZ 1234h (R183). -/
theorem test_jnz :
  leads { State.reset with pc := 0x0000, mem := [(0x0000, 0xC2), (0x0001, 0x34), (0x0002, 0x12)] }
    fun s t => t.flags == [false, false, false, false, false] && t.pc == 0x1234 && t.mem == s.mem := by decide

/-- T94: JNZ 1234h (R183). -/
theorem test_jnz_2 :
  leads { State.reset with pc := 0x0000, zf := true, mem := [(0x0000, 0xC2), (0x0001, 0x34), (0x0002, 0x12)] }
    fun s t => t.flags == [false, true, false, false, false] && t.pc == 0x0003 && t.mem == s.mem := by decide

/-- T95: JZ 1234h (R184). -/
theorem test_jz :
  leads { State.reset with pc := 0x0000, zf := true, mem := [(0x0000, 0xCA), (0x0001, 0x34), (0x0002, 0x12)] }
    fun s t => t.flags == [false, true, false, false, false] && t.pc == 0x1234 && t.mem == s.mem := by decide

/-- T96: JNC 1234h (R185). -/
theorem test_jnc :
  leads { State.reset with pc := 0x0000, cyf := true, mem := [(0x0000, 0xD2), (0x0001, 0x34), (0x0002, 0x12)] }
    fun s t => t.flags == [false, false, false, false, true] && t.pc == 0x0003 && t.mem == s.mem := by decide

/-- T97: JC 1234h (R186). -/
theorem test_jc :
  leads { State.reset with pc := 0x0000, cyf := true, mem := [(0x0000, 0xDA), (0x0001, 0x34), (0x0002, 0x12)] }
    fun s t => t.flags == [false, false, false, false, true] && t.pc == 0x1234 && t.mem == s.mem := by decide

/-- T98: JPO 1234h (R187). -/
theorem test_jpo :
  leads { State.reset with pc := 0x0000, mem := [(0x0000, 0xE2), (0x0001, 0x34), (0x0002, 0x12)] }
    fun s t => t.flags == [false, false, false, false, false] && t.pc == 0x1234 && t.mem == s.mem := by decide

/-- T99: JPE 1234h (R188). -/
theorem test_jpe :
  leads { State.reset with pc := 0x0000, pf := true, mem := [(0x0000, 0xEA), (0x0001, 0x34), (0x0002, 0x12)] }
    fun s t => t.flags == [false, false, false, true, false] && t.pc == 0x1234 && t.mem == s.mem := by decide

/-- T100: JP 1234h (R189). -/
theorem test_jp :
  leads { State.reset with pc := 0x0000, sf := true, mem := [(0x0000, 0xF2), (0x0001, 0x34), (0x0002, 0x12)] }
    fun s t => t.flags == [true, false, false, false, false] && t.pc == 0x0003 && t.mem == s.mem := by decide

/-- T101: JM 1234h (R190). -/
theorem test_jm :
  leads { State.reset with pc := 0x0000, mem := [(0x0000, 0xFA), (0x0001, 0x34), (0x0002, 0x12)] }
    fun s t => t.flags == [false, false, false, false, false] && t.pc == 0x0003 && t.mem == s.mem := by decide

/-- T102: JM 1234h (R190). -/
theorem test_jm_2 :
  leads { State.reset with pc := 0x0000, sf := true, mem := [(0x0000, 0xFA), (0x0001, 0x34), (0x0002, 0x12)] }
    fun s t => t.flags == [true, false, false, false, false] && t.pc == 0x1234 && t.mem == s.mem := by decide

/-- T103: PCHL (R191). -/
theorem test_pchl :
  leads { State.reset with pc := 0x0100, h := 0x41, l := 0x3E, mem := [(0x0100, 0xE9)] }
    fun s t => t.h == 0x41 && t.l == 0x3E && t.flags == [false, false, false, false, false] && t.pc == 0x413E &&
      t.mem == s.mem := by decide

/-- T104: CALL 2000h (R192). -/
theorem test_call :
  leads { State.reset with pc := 0x0100, sp := 0x4000, mem := [(0x0100, 0xCD), (0x0102, 0x20)] }
    fun _ t => t.sp == 0x3FFE && t.flags == [false, false, false, false, false] && t.pc == 0x2000 &&
      t.peek 0x3FFF == 0x01 && t.peek 0x3FFE == 0x03 := by decide

/-- T105: CALL 2000h (R192). -/
theorem test_call_2 :
  leads { State.reset with pc := 0xFFFE, sp := 0x4000, mem := [(0x0000, 0x20), (0xFFFE, 0xCD)] }
    fun _ t => t.sp == 0x3FFE && t.flags == [false, false, false, false, false] && t.pc == 0x2000 &&
      t.peek 0x3FFF == 0x00 && t.peek 0x3FFE == 0x01 := by decide

/-- T108: CNZ 2000h (R193). -/
theorem test_cnz :
  leads { State.reset with pc := 0x0100, sp := 0x4000, mem := [(0x0100, 0xC4), (0x0102, 0x20)] }
    fun _ t => t.sp == 0x3FFE && t.flags == [false, false, false, false, false] && t.pc == 0x2000 &&
      t.peek 0x3FFF == 0x01 && t.peek 0x3FFE == 0x03 := by decide

/-- T106: CC 2000h (R196). -/
theorem test_cc :
  leads { State.reset with pc := 0x0100, sp := 0x4000, mem := [(0x0100, 0xDC), (0x0102, 0x20)] }
    fun s t => t.sp == 0x4000 && t.flags == [false, false, false, false, false] && t.pc == 0x0103 &&
      t.mem == s.mem := by decide

/-- T107: CC 2000h (R196). -/
theorem test_cc_2 :
  leads { State.reset with pc := 0x0100, sp := 0x4000, cyf := true, mem := [(0x0100, 0xDC), (0x0102, 0x20)] }
    fun _ t => t.sp == 0x3FFE && t.flags == [false, false, false, false, true] && t.pc == 0x2000 &&
      t.peek 0x3FFF == 0x01 && t.peek 0x3FFE == 0x03 := by decide

/-- T109: CPE 2000h (R198). -/
theorem test_cpe :
  leads { State.reset with pc := 0x0100, sp := 0x4000, mem := [(0x0100, 0xEC), (0x0102, 0x20)] }
    fun s t => t.sp == 0x4000 && t.flags == [false, false, false, false, false] && t.pc == 0x0103 &&
      t.mem == s.mem := by decide

/-- T110: CM 2000h (R200). -/
theorem test_cm :
  leads { State.reset with pc := 0x0100, sp := 0x4000, sf := true, mem := [(0x0100, 0xFC), (0x0102, 0x20)] }
    fun _ t => t.sp == 0x3FFE && t.flags == [true, false, false, false, false] && t.pc == 0x2000 &&
      t.peek 0x3FFF == 0x01 && t.peek 0x3FFE == 0x03 := by decide

/-- T111: RST 3 (R201). -/
theorem test_rst :
  leads { State.reset with pc := 0x0100, sp := 0x4000, mem := [(0x0100, 0xDF)] }
    fun _ t => t.sp == 0x3FFE && t.flags == [false, false, false, false, false] && t.pc == 0x0018 &&
      t.peek 0x3FFF == 0x01 && t.peek 0x3FFE == 0x01 := by decide

/-- T112: RST 0 (R201). -/
theorem test_rst_2 :
  leads { State.reset with pc := 0x0100, sp := 0x0001, mem := [(0x0100, 0xC7)] }
    fun _ t => t.sp == 0xFFFF && t.flags == [false, false, false, false, false] && t.pc == 0x0000 &&
      t.peek 0x0000 == 0x01 && t.peek 0xFFFF == 0x01 := by decide

/-- T114: RET (R202). -/
theorem test_ret :
  leads { State.reset with pc := 0x2000, sp := 0x3FFE, mem := [(0x2000, 0xC9), (0x3FFE, 0x03), (0x3FFF, 0x01)] }
    fun s t => t.sp == 0x4000 && t.flags == [false, false, false, false, false] && t.pc == 0x0103 &&
      t.mem == s.mem := by decide

/-- T115: RET (R202). -/
theorem test_ret_2 :
  leads { State.reset with pc := 0x2000, sp := 0xFFFF, mem := [(0x0000, 0x12), (0x2000, 0xC9), (0xFFFF, 0x34)] }
    fun s t => t.sp == 0x0001 && t.flags == [false, false, false, false, false] && t.pc == 0x1234 &&
      t.mem == s.mem := by decide

/-- T116: RZ (R204). -/
theorem test_rz :
  leads { State.reset with pc := 0x2000, sp := 0x3FFE, mem := [(0x2000, 0xC8), (0x3FFE, 0x03), (0x3FFF, 0x01)] }
    fun s t => t.sp == 0x3FFE && t.flags == [false, false, false, false, false] && t.pc == 0x2001 &&
      t.mem == s.mem := by decide

/-- T117: RZ (R204). -/
theorem test_rz_2 :
  leads { State.reset with
      pc := 0x2000, sp := 0x3FFE, zf := true, mem := [(0x2000, 0xC8), (0x3FFE, 0x03), (0x3FFF, 0x01)] }
    fun s t => t.sp == 0x4000 && t.flags == [false, true, false, false, false] && t.pc == 0x0103 &&
      t.mem == s.mem := by decide

/-- T118: RNC (R205). -/
theorem test_rnc :
  leads { State.reset with
      pc := 0x2000, sp := 0x3FFE, cyf := true, mem := [(0x2000, 0xD0), (0x3FFE, 0x03), (0x3FFF, 0x01)] }
    fun s t => t.sp == 0x3FFE && t.flags == [false, false, false, false, true] && t.pc == 0x2001 &&
      t.mem == s.mem := by decide

/-- T119: RPO (R207). -/
theorem test_rpo :
  leads { State.reset with pc := 0x2000, sp := 0x3FFE, mem := [(0x2000, 0xE0), (0x3FFE, 0x03), (0x3FFF, 0x01)] }
    fun s t => t.sp == 0x4000 && t.flags == [false, false, false, false, false] && t.pc == 0x0103 &&
      t.mem == s.mem := by decide

/-- T120: RM (R210). -/
theorem test_rm :
  leads { State.reset with
      pc := 0x2000, sp := 0x3FFE, sf := true, mem := [(0x2000, 0xF8), (0x3FFE, 0x03), (0x3FFF, 0x01)] }
    fun s t => t.sp == 0x4000 && t.flags == [true, false, false, false, false] && t.pc == 0x0103 &&
      t.mem == s.mem := by decide

/-- T121: PUSH D (R227). -/
theorem test_push :
  leads { State.reset with pc := 0x0100, d := 0x8F, e := 0x9D, sp := 0x3A2C, mem := [(0x0100, 0xD5)] }
    fun _ t => t.d == 0x8F && t.e == 0x9D && t.sp == 0x3A2A && t.flags == [false, false, false, false, false] &&
      t.pc == 0x0101 && t.peek 0x3A2B == 0x8F && t.peek 0x3A2A == 0x9D := by decide

/-- T122: PUSH H (R227). -/
theorem test_push_2 :
  leads { State.reset with pc := 0x0100, h := 0x12, l := 0x34, mem := [(0x0100, 0xE5)] }
    fun _ t => t.h == 0x12 && t.l == 0x34 && t.sp == 0xFFFE && t.flags == [false, false, false, false, false] &&
      t.pc == 0x0101 && t.peek 0xFFFF == 0x12 && t.peek 0xFFFE == 0x34 := by decide

/-- T123: PUSH PSW (R228). -/
theorem test_pushPsw :
  leads { State.reset with
      pc := 0x0100, a := 0x1F, sp := 0x502A, zf := true, pf := true, cyf := true, mem := [(0x0100, 0xF5)] }
    fun _ t => t.a == 0x1F && t.sp == 0x5028 && t.flags == [false, true, false, true, true] && t.pc == 0x0101 &&
      t.peek 0x5029 == 0x1F && t.peek 0x5028 == 0x47 := by decide

/-- T125: PUSH PSW (R228). -/
theorem test_pushPsw_2 :
  leads { State.reset with
      pc := 0x0100, a := 0xAA, sp := 0x3000, sf := true, zf := true, acf := true, pf := true, cyf := true,
      mem := [(0x0100, 0xF5)] }
    fun _ t => t.a == 0xAA && t.sp == 0x2FFE && t.flags == [true, true, true, true, true] && t.pc == 0x0101 &&
      t.peek 0x2FFF == 0xAA && t.peek 0x2FFE == 0xD7 := by decide

/-- T126: POP H (R229). -/
theorem test_pop :
  leads { State.reset with pc := 0x0100, sp := 0x1239, mem := [(0x0100, 0xE1), (0x1239, 0x3D), (0x123A, 0x93)] }
    fun s t => t.h == 0x93 && t.l == 0x3D && t.sp == 0x123B && t.flags == [false, false, false, false, false] &&
      t.pc == 0x0101 && t.mem == s.mem := by decide

/-- T127: POP B (R229). -/
theorem test_pop_2 :
  leads { State.reset with pc := 0x0000, sp := 0xFFFF, mem := [(0x0000, 0xC1), (0xFFFF, 0xAA)] }
    fun s t => t.b == 0xC1 && t.c == 0xAA && t.sp == 0x0001 && t.flags == [false, false, false, false, false] &&
      t.pc == 0x0001 && t.mem == s.mem := by decide

/-- T128: POP PSW (R230). -/
theorem test_popPsw :
  leads { State.reset with pc := 0x0100, sp := 0x2C00, mem := [(0x0100, 0xF1), (0x2C00, 0xC3), (0x2C01, 0xFF)] }
    fun s t => t.a == 0xFF && t.sp == 0x2C02 && t.flags == [true, true, false, false, true] && t.pc == 0x0101 &&
      t.mem == s.mem := by decide

/-- T130: POP PSW (R230). -/
theorem test_popPsw_2 :
  leads { State.reset with
      pc := 0x0100, sp := 0x2C00, sf := true, zf := true, acf := true, pf := true, cyf := true,
      mem := [(0x0100, 0xF1), (0x2C00, 0x28), (0x2C01, 0x12)] }
    fun s t => t.a == 0x12 && t.sp == 0x2C02 && t.flags == [false, false, false, false, false] &&
      t.pc == 0x0101 && t.mem == s.mem := by decide

/-- T131: XTHL (R231). -/
theorem test_xthl :
  leads { State.reset with
      pc := 0x0100, h := 0x0B, l := 0x3C, sp := 0x10AD,
      mem := [(0x0100, 0xE3), (0x10AD, 0xF0), (0x10AE, 0x0D)] }
    fun _ t => t.h == 0x0D && t.l == 0xF0 && t.sp == 0x10AD && t.flags == [false, false, false, false, false] &&
      t.pc == 0x0101 && t.peek 0x10AE == 0x0B && t.peek 0x10AD == 0x3C := by decide

/-- T132: XTHL (R231). -/
theorem test_xthl_2 :
  leads { State.reset with
      pc := 0x0200, h := 0x11, l := 0x22, sp := 0xFFFF,
      mem := [(0x0000, 0x44), (0x0200, 0xE3), (0xFFFF, 0x33)] }
    fun _ t => t.h == 0x44 && t.l == 0x33 && t.sp == 0xFFFF && t.flags == [false, false, false, false, false] &&
      t.pc == 0x0201 && t.peek 0x0000 == 0x11 && t.peek 0xFFFF == 0x22 := by decide

/-- T133: STC (R240). -/
theorem test_stc :
  leads { State.reset with pc := 0x0100, zf := true, acf := true, mem := [(0x0100, 0x37)] }
    fun s t => t.flags == [false, true, true, false, true] && t.pc == 0x0101 && t.mem == s.mem := by decide

/-- T135: CMC (R241). -/
theorem test_cmc :
  leads { State.reset with pc := 0x0100, sf := true, cyf := true, mem := [(0x0100, 0x3F)] }
    fun s t => t.flags == [true, false, false, false, false] && t.pc == 0x0101 && t.mem == s.mem := by decide

/-- T137: IN 10h (R245). -/
theorem test_inPort :
  leads { State.reset with
      pc := 0x0100, zf := true, envBytes := [0x5A], mem := [(0x0100, 0xDB), (0x0101, 0x10)] }
    fun s t => t.a == 0x5A && t.flags == [false, true, false, false, false] && t.pc == 0x0102 &&
      t.mem == s.mem := by decide

/-- T138: OUT 01h (R246). -/
theorem test_outPort :
  leads { State.reset with pc := 0x0100, a := 0xA7, mem := [(0x0100, 0xD3), (0x0101, 0x01)] }
    fun s t => t.a == 0xA7 && t.flags == [false, false, false, false, false] && t.pc == 0x0102 &&
      t.mem == s.mem && t.outputs == [(0x01, 0xA7)] := by decide

/-- T139: NOP (R250). -/
theorem test_nop :
  leads { State.reset with pc := 0x0100, mem := [] }
    fun s t => t.flags == [false, false, false, false, false] && t.pc == 0x0101 && t.mem == s.mem := by decide

/-- T140: HLT (R251). -/
theorem test_hlt :
  leads { State.reset with pc := 0x0004, mem := [(0x0004, 0x76)] }
    fun s t => t.halted == true && t.flags == [false, false, false, false, false] && t.pc == 0x0005 &&
      t.mem == s.mem := by decide

/-- T141: DI (R252). -/
theorem test_di :
  leads { State.reset with pc := 0x0100, inte := true, mem := [(0x0100, 0xF3)] }
    fun s t => t.inte == false && t.flags == [false, false, false, false, false] && t.pc == 0x0101 &&
      t.mem == s.mem := by decide

/-- T142: EI (R253). -/
theorem test_ei :
  leads { State.reset with pc := 0x0100, mem := [(0x0100, 0xFB)] }
    fun s t => t.inte == true && t.eiDelay == true && t.flags == [false, false, false, false, false] &&
      t.pc == 0x0101 && t.mem == s.mem := by decide

/-- Worked from R194 and R180 by hand. -/
theorem test_cz :
  leads { State.reset with pc := 0x0100, sp := 0x4000, zf := true, mem := [(0x0100, 0xCC), (0x0102, 0x20)] }
    fun _ t => t.sp == 0x3FFE && t.flags == [false, true, false, false, false] && t.pc == 0x2000 &&
      t.peek 0x3FFF == 0x01 && t.peek 0x3FFE == 0x03 := by decide

/-- Worked from R195 and R180 by hand. -/
theorem test_cnc :
  leads { State.reset with pc := 0x0100, sp := 0x4000, cyf := true, mem := [(0x0100, 0xD4), (0x0102, 0x20)] }
    fun s t => t.sp == 0x4000 && t.flags == [false, false, false, false, true] && t.pc == 0x0103 &&
      t.mem == s.mem := by decide

/-- Worked from R197 and R180 by hand. -/
theorem test_cpo :
  leads { State.reset with pc := 0x0100, sp := 0x4000, mem := [(0x0100, 0xE4), (0x0102, 0x20)] }
    fun _ t => t.sp == 0x3FFE && t.flags == [false, false, false, false, false] && t.pc == 0x2000 &&
      t.peek 0x3FFF == 0x01 && t.peek 0x3FFE == 0x03 := by decide

/-- Worked from R199 and R180 by hand. -/
theorem test_cp :
  leads { State.reset with pc := 0x0100, sp := 0x4000, sf := true, mem := [(0x0100, 0xF4), (0x0102, 0x20)] }
    fun s t => t.sp == 0x4000 && t.flags == [true, false, false, false, false] && t.pc == 0x0103 &&
      t.mem == s.mem := by decide

/-- Worked from R203 and R180 by hand. -/
theorem test_rnz :
  leads { State.reset with
      pc := 0x2000, sp := 0x3FFE, zf := true, mem := [(0x2000, 0xC0), (0x3FFE, 0x03), (0x3FFF, 0x01)] }
    fun s t => t.sp == 0x3FFE && t.flags == [false, true, false, false, false] && t.pc == 0x2001 &&
      t.mem == s.mem := by decide

/-- Worked from R206 and R180 by hand. -/
theorem test_rc :
  leads { State.reset with
      pc := 0x2000, sp := 0x3FFE, cyf := true, mem := [(0x2000, 0xD8), (0x3FFE, 0x03), (0x3FFF, 0x01)] }
    fun s t => t.sp == 0x4000 && t.flags == [false, false, false, false, true] && t.pc == 0x0103 &&
      t.mem == s.mem := by decide

/-- Worked from R208 and R180 by hand. -/
theorem test_rpe :
  leads { State.reset with pc := 0x2000, sp := 0x3FFE, mem := [(0x2000, 0xE8), (0x3FFE, 0x03), (0x3FFF, 0x01)] }
    fun s t => t.sp == 0x3FFE && t.flags == [false, false, false, false, false] && t.pc == 0x2001 &&
      t.mem == s.mem := by decide

/-- Worked from R209 and R180 by hand. -/
theorem test_rp :
  leads { State.reset with pc := 0x2000, sp := 0x3FFE, mem := [(0x2000, 0xF0), (0x3FFE, 0x03), (0x3FFF, 0x01)] }
    fun s t => t.sp == 0x4000 && t.flags == [false, false, false, false, false] && t.pc == 0x0103 &&
      t.mem == s.mem := by decide

/-- R94, the spec's second value of UNDOC_OPCODES (part 2.11). -/
theorem test_undoc08 :
  leads { siliconReset with pc := 0x0100, mem := [(0x0100, 0x08)] }
    fun s t => t.flags == [false, false, false, false, false] && t.pc == 0x0101 && t.mem == s.mem := by decide

/-- R94, the spec's second value of UNDOC_OPCODES (part 2.11). -/
theorem test_undoc10 :
  leads { siliconReset with pc := 0x0100, mem := [(0x0100, 0x10)] }
    fun s t => t.flags == [false, false, false, false, false] && t.pc == 0x0101 && t.mem == s.mem := by decide

/-- R94, the spec's second value of UNDOC_OPCODES (part 2.11). -/
theorem test_undoc18 :
  leads { siliconReset with pc := 0x0100, mem := [(0x0100, 0x18)] }
    fun s t => t.flags == [false, false, false, false, false] && t.pc == 0x0101 && t.mem == s.mem := by decide

/-- R94, the spec's second value of UNDOC_OPCODES (part 2.11). -/
theorem test_undoc20 :
  leads { siliconReset with pc := 0x0100, mem := [(0x0100, 0x20)] }
    fun s t => t.flags == [false, false, false, false, false] && t.pc == 0x0101 && t.mem == s.mem := by decide

/-- R94, the spec's second value of UNDOC_OPCODES (part 2.11). -/
theorem test_undoc28 :
  leads { siliconReset with pc := 0x0100, mem := [(0x0100, 0x28)] }
    fun s t => t.flags == [false, false, false, false, false] && t.pc == 0x0101 && t.mem == s.mem := by decide

/-- R94, the spec's second value of UNDOC_OPCODES (part 2.11). -/
theorem test_undoc30 :
  leads { siliconReset with pc := 0x0100, mem := [(0x0100, 0x30)] }
    fun s t => t.flags == [false, false, false, false, false] && t.pc == 0x0101 && t.mem == s.mem := by decide

/-- R94, the spec's second value of UNDOC_OPCODES (part 2.11). -/
theorem test_undoc38 :
  leads { siliconReset with pc := 0x0100, mem := [(0x0100, 0x38)] }
    fun s t => t.flags == [false, false, false, false, false] && t.pc == 0x0101 && t.mem == s.mem := by decide

/-- R94, the spec's second value of UNDOC_OPCODES (part 2.11). -/
theorem test_undocCB :
  leads { siliconReset with pc := 0x0100, mem := [(0x0100, 0xCB), (0x0102, 0x20)] }
    fun s t => t.flags == [false, false, false, false, false] && t.pc == 0x2000 && t.mem == s.mem := by decide

/-- R94, the spec's second value of UNDOC_OPCODES (part 2.11). -/
theorem test_undocD9 :
  leads { siliconReset with pc := 0x0100, sp := 0x3FFE, mem := [(0x0100, 0xD9), (0x3FFE, 0x03), (0x3FFF, 0x01)] }
    fun s t => t.sp == 0x4000 && t.flags == [false, false, false, false, false] && t.pc == 0x0103 &&
      t.mem == s.mem := by decide

/-- R94, the spec's second value of UNDOC_OPCODES (part 2.11). -/
theorem test_undocDD :
  leads { siliconReset with pc := 0x0100, sp := 0x4000, mem := [(0x0100, 0xDD), (0x0102, 0x20)] }
    fun _ t => t.sp == 0x3FFE && t.flags == [false, false, false, false, false] && t.pc == 0x2000 &&
      t.peek 0x3FFF == 0x01 && t.peek 0x3FFE == 0x03 := by decide

/-- R94, the spec's second value of UNDOC_OPCODES (part 2.11). -/
theorem test_undocED :
  leads { siliconReset with pc := 0x0100, sp := 0x4000, mem := [(0x0100, 0xED), (0x0102, 0x20)] }
    fun _ t => t.sp == 0x3FFE && t.flags == [false, false, false, false, false] && t.pc == 0x2000 &&
      t.peek 0x3FFF == 0x01 && t.peek 0x3FFE == 0x03 := by decide

/-- R94, the spec's second value of UNDOC_OPCODES (part 2.11). -/
theorem test_undocFD :
  leads { siliconReset with pc := 0x0100, sp := 0x4000, mem := [(0x0100, 0xFD), (0x0102, 0x20)] }
    fun _ t => t.sp == 0x3FFE && t.flags == [false, false, false, false, false] && t.pc == 0x2000 &&
      t.peek 0x3FFF == 0x01 && t.peek 0x3FFE == 0x03 := by decide

/-! ## Parameters at their other values (part 2.11) -/

theorem test_rlc_literal :
  leads { State.reset with
      a := 0xF2, params := { Params.initial with rotateReading := .sourceLiteral }, mem := [(0x0000, 0x07)] }
    fun _ t => t.a == 0xE4 && t.cyf == true := by decide

theorem test_rar_literal :
  leads { State.reset with
      a := 0x6A, cyf := true, params := { Params.initial with rotateReading := .sourceLiteral }
      mem := [(0x0000, 0x1F)] }
    fun _ t => t.a == 0x35 && t.cyf == false := by decide

theorem test_sui_borrow :
  leads { State.reset with
      a := 0x10, params := { Params.initial with acOnSubtract := .borrow }, mem := [(0x0000, 0xD6), (0x0001, 0x01)] }
    fun _ t => t.a == 0x0F && t.flags == [false, false, true, true, false] := by decide

theorem test_dcr_borrow :
  leads { State.reset with params := { Params.initial with acOnSubtract := .borrow }, mem := [(0x0000, 0x05)] }
    fun _ t => t.b == 0xFF && t.acf == true := by decide

theorem test_ana_one :
  leads { State.reset with
      a := 0xF0, b := 0x07, params := { Params.initial with acOnAnd := .one }, mem := [(0x0000, 0xA0)] }
    fun _ t => t.a == 0x00 && t.acf == true := by decide

theorem test_ana_zero :
  leads { State.reset with
      a := 0xFC, c := 0x0F, params := { Params.initial with acOnAnd := .zero }, mem := [(0x0000, 0xA1)] }
    fun _ t => t.a == 0x0C && t.acf == false := by decide

/-- The default: the run is refused, PC = 0101h, nothing else changed. -/
theorem test_undocumented_refused :
  refuses { State.reset with pc := 0x0100, mem := [(0x0100, 0x08)] }
    fun s => .undocumentedOpcode 0x08 { s with pc := 0x0101 } := by decide

/-- Byte 1 alone is fetched of a refused DDh, from a device address too: one draw. -/
theorem test_undocumented_refused_fetch :
  refuses { State.reset with
      params := { Params.initial with memoryMap := [{ base := 0, size := 65536, kind := .device }] }
      envBytes := [0xDD, 0x00, 0x20] }
    fun s => .undocumentedOpcode 0xDD { s with pc := 0x0001, envBytes := [0x00, 0x20] } := by decide

/-- R261: the 8085's RIM and SIM are refused by default. -/
theorem test_rim_and_sim_refused :
  refuses { State.reset with mem := [(0x0000, 0x20)] } (fun s => .undocumentedOpcode 0x20 { s with pc := 0x0001 }) ∧
  refuses { State.reset with mem := [(0x0000, 0x30)] } (fun s => .undocumentedOpcode 0x30 { s with pc := 0x0001 }) := by
  decide

/-! ## Interrupt, halt and reset (part 2.12) -/

/-- INT asserted, and the byte the device supplies. -/
def interruptWith (v : Byte) : StepInputs := { StepInputs.quiet with int := true, intInstr := v }

/-- I1. -/
theorem test_interrupt :
  leads { State.reset with pc := 0x1234, sp := 0x4000, inte := true, inputs := [interruptWith 0xD7] }
    fun _ t => t.pc == 0x0010 && t.sp == 0x3FFE && t.inte == false && t.mem == [(0x3FFE, 0x34), (0x3FFF, 0x12)] := by
  decide

/-- I2. -/
theorem test_interrupt_disabled :
  leads { State.reset with pc := 0x1234, inputs := [interruptWith 0xD7], mem := [(0x1234, 0x3C)] }
    fun _ t => t.a == 0x01 && t.pc == 0x1235 && t.sp == 0x0000 := by decide

/-- I3, step 2: the boundary after EI is closed. -/
theorem test_interrupt_after_ei :
  leads { State.reset with pc := 0x0101, sp := 0x4000, inte := true, eiDelay := true, inputs := [interruptWith 0xFF] }
    fun _ t => t.pc == 0x0102 && t.sp == 0x4000 && t.inte == true && t.eiDelay == false := by decide

/-- I4, step 1. -/
theorem test_halted_waits :
  leads { State.reset with pc := 0x0005, halted := true, inte := true } fun s t => t == s := by decide

/-- I4, step 2. -/
theorem test_interrupt_leaves_halt :
  leads { State.reset with pc := 0x0005, sp := 0x0400, halted := true, inte := true, inputs := [interruptWith 0xCF] }
    fun _ t => t.pc == 0x0008 && t.halted == false && t.inte == false && t.mem == [(0x03FE, 0x05)] := by decide

/-- I5. -/
theorem test_ended :
  leads { State.reset with pc := 0x0005, halted := true, inputs := [interruptWith 0xFF] }
    fun s t => t == { s with inputs := [] } := by decide

/-- I6. -/
theorem test_reset :
  leads { State.reset with
      pc := 0x1234, sp := 0x4000, a := 0x55, cyf := true, inte := true, halted := true
      inputs := [{ StepInputs.quiet with reset := true }] }
    fun s t => t == { s with pc := 0x0000, inte := false, halted := false, inputs := [] } := by decide

/-- I7. -/
theorem test_injected_refused :
  refuses { State.reset with pc := 0x1234, inte := true, halted := true, inputs := [interruptWith 0xCD] }
    fun s => .unsupportedInjectedInstruction 0xCD { s with inte := false, halted := false, inputs := [] } := by decide

/-- R278, the spec's second value: CALL 2000h supplied by the device; the interrupted PC is pushed. -/
theorem test_injected_call :
  leads { anyReset with
      pc := 0x1234, sp := 0x4000, inte := true
      inputs := [{ interruptWith 0xCD with intByte2 := 0x00, intByte3 := 0x20 }] }
    fun _ t => t.pc == 0x2000 && t.sp == 0x3FFE && t.inte == false && t.mem == [(0x3FFE, 0x34), (0x3FFF, 0x12)] := by
  decide

/-! ## The memory map (R64) -/

/-- ROM below 1000h, a device from F000h up, RAM between. -/
def mapped : Params :=
  { Params.initial with memoryMap := [{ base := 0, size := 0x1000, kind := .rom },
      { base := 0xF000, size := 0x1000, kind := .device }] }

/-- A state with that map, a byte in ROM and one byte scheduled by the environment. -/
def mappedState : State :=
  { State.reset with
    params := mapped, mem := [(0x0FFF, 0x11), (0x1000, 0x22)], envBytes := [0x77], a := 0x99, sp := 0x2000 }

theorem test_rom_write_ignored :
  leads { mappedState with pc := 0x2000, mem := [(0x0FFF, 0x11), (0x2000, 0x32), (0x2001, 0xFF), (0x2002, 0x0F)] }
    fun s t => t.mem == s.mem && t.pc == 0x2003 := by decide

theorem test_device_write_recorded :
  leads { mappedState with pc := 0x2000, mem := [(0x2000, 0x32), (0x2002, 0xF0)] }
    fun s t => t.mem == s.mem && t.busWrites == [(0xF000, 0x99)] := by decide

theorem test_device_read_draws :
  leads { mappedState with pc := 0x2000, mem := [(0x2000, 0x3A), (0x2001, 0xFF), (0x2002, 0xFF)] }
    fun _ t => t.a == 0x77 && t.envBytes == [] && t.drawCount == 0 := by decide

/-! ## Witnesses: the hypotheses of each statement are met together -/

theorem witness_DecodeInvertsEncode : (Instr.push .hl).wf = true ∧ (Instr.ldax .de).wf = true := by decide

theorem witness_EncodeInvertsDecode : decode [0x36, 0x5A, 0x00] = .ok (.mviM 0x5A, [0x00]) := rfl

theorem witness_ResetInputWritesFourValues :
    ({ State.reset with halted := true, inte := true, inputs := [{ StepInputs.quiet with reset := true }] } :
      State).currentInputs.reset = true := by decide

/-- Three lengths, the longest wrapping from FFFFh to 0001h, the shortest fetched from ROM, and a refused CBh. -/
theorem witness_StepRunsTheDecodedInstruction :
    (∃ s : State, s.currentInputs.reset = false ∧ s.accepts s.currentInputs = false ∧ s.halted = false ∧
      (∀ k, k < (Instr.lxi .sp 0x3ABC).fetched s.params.undocOpcodes → s.readable (s.pc + BitVec.ofNat 16 k)) ∧
      decode [s.peek s.pc, s.peek (s.pc + 1#16), s.peek (s.pc + 2#16)] = .ok (.lxi .sp 0x3ABC, []) ∧
      s.pc = 0xFFFF) ∧
    (∃ s : State, s.currentInputs.reset = false ∧ s.accepts s.currentInputs = false ∧ s.halted = false ∧
      (∀ k, k < (Instr.mviM 0x22).fetched s.params.undocOpcodes → s.readable (s.pc + BitVec.ofNat 16 k)) ∧
      decode [s.peek s.pc, s.peek (s.pc + 1#16), s.peek (s.pc + 2#16)] = .ok (.mviM 0x22, [0x00])) ∧
    (∃ s : State, s.currentInputs.reset = false ∧ s.accepts s.currentInputs = false ∧ s.halted = false ∧
      (∀ k, k < Instr.cma.fetched s.params.undocOpcodes → s.readable (s.pc + BitVec.ofNat 16 k)) ∧
      decode [s.peek s.pc, s.peek (s.pc + 1#16), s.peek (s.pc + 2#16)] = .ok (.cma, [0x00, 0x00]) ∧
      s.kindAt s.pc = .rom) ∧
    (∃ s : State, s.currentInputs.reset = false ∧ s.accepts s.currentInputs = false ∧ s.halted = false ∧
      (∀ k, k < (Instr.undocCB 0x1234).fetched s.params.undocOpcodes → s.readable (s.pc + BitVec.ofNat 16 k)) ∧
      decode [s.peek s.pc, s.peek (s.pc + 1#16), s.peek (s.pc + 2#16)] = .ok (.undocCB 0x1234, []) ∧
      s.params.undocOpcodes = .refuse) :=
  ⟨⟨{ State.reset with pc := 0xFFFF, mem := [(0x0000, 0xBC), (0x0001, 0x3A), (0xFFFF, 0x31)] },
      by decide, by decide, by decide, by unfold State.readable; decide, rfl, by decide⟩,
    ⟨{ State.reset with mem := [(0x0000, 0x36), (0x0001, 0x22)] },
      by decide, by decide, by decide, by unfold State.readable; decide, rfl⟩,
    ⟨{ mappedState with mem := [(0x0000, 0x2F)] },
      by decide, by decide, by decide, by unfold State.readable; decide, rfl, by decide⟩,
    ⟨{ State.reset with mem := [(0x0000, 0xCB), (0x0001, 0x34), (0x0002, 0x12)] },
      by decide, by decide, by decide, by unfold State.readable; decide, rfl, rfl⟩⟩

/-- EI then NOP with INT held high: the boundary after the NOP is reached, and accepts. -/
theorem witness_EiHoldsOffOneBoundary :
    ∃ s t u : State, s.currentInputs.reset = false ∧ s.accepts s.currentInputs = false ∧ s.halted = false ∧
      s.readable s.pc ∧ s.peek s.pc = 0xFB#8 ∧ step s = .next t ∧ t.currentInputs.reset = false ∧
      t.currentInputs.int = true ∧ step t = .next u ∧ t.readable t.pc ∧ t.peek t.pc ≠ 0xFB#8 ∧
      t.peek t.pc ≠ 0xF3#8 ∧ u.currentInputs.int = true :=
  ⟨{ State.reset with mem := [(0x0000, 0xFB)], inputs := [interruptWith 0xFF, interruptWith 0xFF, interruptWith 0xFF] },
    _, _, by decide, by decide, by decide, by unfold State.readable; decide, by decide, rfl, by decide, by decide, rfl,
    by unfold State.readable; decide, by decide, by decide, by decide⟩

theorem witness_HaltedStepWaits :
    ∃ s : State, s.halted = true ∧ s.currentInputs.reset = false ∧ s.accepts s.currentInputs = false :=
  ⟨{ State.reset with halted := true, inte := true }, by decide, by decide, by decide⟩

theorem witness_EndedRunStaysAsItIs :
    ∃ s : State, s.ended = true ∧ (∀ i ∈ s.inputs.take 3, i.reset = false) ∧ s.inputs.length = 2 :=
  ⟨{ State.reset with halted := true, inputs := [interruptWith 0xFF, interruptWith 0xCD] },
    by decide, by decide, by decide⟩

/-- RST 0 with the stack at 0001h (the second byte goes to FFFFh) and RST 7 with the stack at 0000h. -/
theorem witness_InterruptEntersTheHandler :
    (∃ s : State, s.mem.wf = true ∧ s.currentInputs.reset = false ∧ s.accepts s.currentInputs = true ∧
      s.currentInputs.intInstr = opcode233 0b11#2 0 0b111#3 ∧ s.sp = 1 ∧
      s.kindAt (s.sp - 1#16) = .ram ∧ s.kindAt (s.sp - 2#16) = .ram) ∧
    (∃ s : State, s.mem.wf = true ∧ s.currentInputs.reset = false ∧ s.accepts s.currentInputs = true ∧
      s.currentInputs.intInstr = opcode233 0b11#2 7 0b111#3 ∧ s.sp = 0 ∧ s.halted = true ∧
      s.kindAt (s.sp - 1#16) = .ram ∧ s.kindAt (s.sp - 2#16) = .ram) :=
  ⟨⟨{ State.reset with sp := 1, inte := true, inputs := [interruptWith 0xC7] }, by decide⟩,
    ⟨{ State.reset with inte := true, halted := true, inputs := [interruptWith 0xFF] }, by decide⟩⟩

theorem witness_NonRstIsRefusedUnderRstOnly :
    ∃ s : State, s.currentInputs.reset = false ∧ s.accepts s.currentInputs = true ∧
      s.params.intInjected = .rstOnly ∧ s.currentInputs.intInstr &&& 0xC7#8 ≠ 0xC7#8 :=
  ⟨{ State.reset with inte := true, inputs := [interruptWith 0xCD] }, by decide⟩

/-- One injected instruction of each length, and an RST. -/
theorem witness_InjectedInstructionRunsWithPcUnmoved :
    ∃ f : Byte → State, (∀ v ∈ [0x3C, 0x3E, 0xCD, 0xFF], (f v).currentInputs.reset = false ∧
        (f v).accepts (f v).currentInputs = true ∧ (f v).params.intInjected = .any ∧
        (f v).currentInputs.intInstr = v ∧ (f v).currentInputs.intByte2 = 0x00 ∧
        (f v).currentInputs.intByte3 = 0x20) ∧
      decode [0x3C, 0x00, 0x20] = .ok (.inr (.reg .a), [0x00, 0x20]) ∧
      decode [0x3E, 0x00, 0x20] = .ok (.mviR .a 0x00, [0x20]) ∧
      decode [0xCD, 0x00, 0x20] = .ok (.call 0x2000, []) ∧
      decode [0xFF, 0x00, 0x20] = .ok (.rst 7, [0x00, 0x20]) :=
  ⟨fun v => { anyReset with inte := true, inputs := [{ interruptWith v with intByte3 := 0x20 }] },
    by decide, rfl, rfl, rfl, rfl⟩

/-- Each of the two refusals happens. -/
theorem witness_StepRefusesOnlyWhereTheSpecDoes :
    refuses { State.reset with mem := [(0x0000, 0xFD)] } (fun s => .undocumentedOpcode 0xFD { s with pc := 0x0001 }) ∧
    refuses { State.reset with inte := true, inputs := [interruptWith 0x00] }
      (fun s => .unsupportedInjectedInstruction 0x00 { s with inte := false, inputs := [] }) := by decide

theorem witness_NothingFaultsAndEveryInstructionCompletes :
    siliconReset.params.undocOpcodes = .asSilicon ∧
    ∀ op ∈ undocumentedValues, (encode (.jmp 0xFFFF)).head? ≠ some op := by decide

/-- The invariant before a step, with ei_delay set, and the step. -/
theorem witness_StepKeepsTheInvariant :
    ∃ s t : State, s.Inv ∧ s.eiDelay = true ∧ step s = .next t :=
  ⟨{ State.reset with inte := true, eiDelay := true, mem := [(0x0001, 0x5A)] }, _,
    by unfold State.Inv; decide, rfl, rfl⟩

/-- STA to the ROM's last byte. -/
theorem witness_RomNeverChanges :
    ∃ s t : State, s.mem.wf = true ∧ s.kindAt 0x0FFF = .rom ∧ step s = .next t :=
  ⟨{ mappedState with pc := 0x2000, mem := [(0x0FFF, 0x11), (0x2000, 0x32), (0x2001, 0xFF), (0x2002, 0x0F)] }, _,
    by decide, by decide, rfl⟩

theorem witness_ParametersNeverChange : ∃ t, step mappedState = .next t := ⟨_, rfl⟩

/-- An instruction of a row with values, DAA with CY set (the row's own hypothesis), and one of the last row. -/
theorem witness_FlagsAreWrittenAsTabulated :
    (∃ t, exec (.ora .m) mappedState = .next t) ∧
    (∃ t, exec .daa { mappedState with cyf := true } = .next t) ∧ (∃ t, exec (.inx .sp) mappedState = .next t) :=
  ⟨⟨_, rfl⟩, ⟨_, rfl⟩, ⟨_, rfl⟩⟩

/-- An address beside a stored one, a conditional call not taken, and a form that stores nothing. -/
theorem witness_StoresOnlyAtTheTabulatedAddresses :
    (∃ t, mappedState.mem.wf = true ∧ exec (.shld 0xFFFF) mappedState = .next t ∧
      0x0001 ∉ (Instr.shld 0xFFFF).stores mappedState) ∧
    (∃ t, exec (.cz 0x3000) mappedState = .next t ∧ 0x1FFF ∉ (Instr.cz 0x3000).stores mappedState) ∧
    (∃ t, exec (.cmp .m) mappedState = .next t ∧ 0x0000 ∉ (Instr.cmp .m).stores mappedState) :=
  ⟨⟨_, by decide, rfl, by decide⟩, ⟨_, rfl, by decide⟩, ⟨_, rfl, by decide⟩⟩

theorem witness_RegistersWrittenOnlyWhereSaid :
    ∃ t, exec (.mviR .b 0x5A) mappedState = .next t ∧ Reg.c ∉ (Instr.mviR .b 0x5A).writesRegs ∧
      (Instr.mviR .b 0x5A).writesSp = false ∧ (Instr.mviR .b 0x5A).writesPc = false :=
  ⟨_, rfl, by decide, rfl, rfl⟩

theorem witness_ControlStateWrittenOnlyWhereSaid :
    (∃ t, exec .hlt mappedState = .next t ∧ Instr.hlt ≠ .ei ∧ Instr.hlt ≠ .di) ∧
    (∃ t, exec .di mappedState = .next t ∧ Instr.di ≠ .hlt ∧ Instr.di ≠ .ei) :=
  ⟨⟨_, rfl, by decide, by decide⟩, ⟨_, rfl, by decide, by decide⟩⟩

theorem witness_EnvironmentTouchedOnlyWhereSaid :
    ∃ t, exec .xthl mappedState = .next t ∧ (∀ p, Instr.xthl ≠ .outPort p) ∧ (∀ p, Instr.xthl ≠ .inPort p) ∧
      (∀ x ∈ Instr.xthl.stores mappedState, mappedState.kindAt x ≠ .device) ∧
      (∀ x ∈ Instr.xthl.loads mappedState, mappedState.kindAt x ≠ .device) :=
  ⟨_, rfl, by simp, by simp,
    by simp only [Instr.stores, List.forall_mem_cons, List.not_mem_nil, false_implies, implies_true]; decide,
    by simp only [Instr.loads, State.popAddresses, List.forall_mem_cons, List.not_mem_nil, false_implies,
      implies_true]; decide⟩

/-- Each kind of address at the edge of its region, and both ways of drawing. -/
theorem witness_ReadsByKindOfAddress :
    mappedState.kindAt 0x0FFF = .rom ∧ mappedState.kindAt 0x1000 = .ram ∧ mappedState.kindAt 0xEFFF = .ram ∧
      mappedState.kindAt 0xF000 = .device ∧ mappedState.kindAt 0xFFFF = .device ∧
      mappedState.envBytes = 0x77 :: [] ∧ { mappedState with envBytes := [] }.envBytes = [] := by decide

theorem witness_WritesAreReadBack : mappedState.mem.wf = true ∧ mappedState.kindAt 0x1000 = .ram := by decide

theorem witness_StoresByte :
    mappedState.kindAt 0xEFFF = .ram ∧ mappedState.kindAt 0x0000 = .rom ∧ mappedState.kindAt 0xFFFF = .device := by
  decide

theorem witness_LhldReadsWhatShldStored :
    State.reset.mem.wf = true ∧ State.reset.kindAt 0xFFFF = .ram ∧ State.reset.kindAt (0xFFFF + 1#16) = .ram := by
  decide

theorem witness_MemoryStores : mappedState.mem.wf = true := by decide

theorem witness_SubtractAc :
    mappedState.params.acOnSubtract = .carryOfComplementAdd ∧
    { Params.initial with acOnSubtract := .borrow }.acOnSubtract = .borrow := by decide

theorem witness_IncrementDecrementResults : State.reset.mem.wf = true := by decide

/-- Both ends of the range of the operands. -/
theorem witness_DecimalAdditionIsCorrect :
    { State.reset with a := 0x99 }.a = packedBcd 99 ∧ State.reset.a = packedBcd 0 ∧ 99 < 100 ∧ 0 < 100 := by decide

theorem witness_RotateResults : State.reset.params.rotateReading = .intel := by decide

theorem witness_LiteralReadingSwapsTheRotates :
    ∃ s t : State, s.params.rotateReading = .intel ∧
      t = { s with params := { s.params with rotateReading := .sourceLiteral } } :=
  ⟨State.reset, _, by decide, rfl⟩

theorem witness_RepeatedRotatesRestore :
    { mappedState with cyf := true }.params.rotateReading = .intel := by decide

/-- The conditions of the branches at both values. -/
theorem witness_CallResults :
    State.reset.mem.wf = true ∧ State.reset.zf = false ∧ { State.reset with zf := true }.zf = true := by decide

theorem witness_RestartResults : { State.reset with sp := 1 }.mem.wf = true := by decide

/-- The stack wraps from 0001h to FFFFh. -/
theorem witness_ReturnUndoesCall :
    ∃ s : State, s.sp = 1 ∧ s.mem.wf = true ∧ s.kindAt (s.sp - 1#16) = .ram ∧ s.kindAt (s.sp - 2#16) = .ram :=
  ⟨{ State.reset with sp := 1 }, by decide⟩

theorem witness_PushResults : State.reset.mem.wf = true := by decide

theorem witness_PopResults :
    ∃ (s r : State) (lo hi : Byte), lo = (s.memRead s.sp).1 ∧ hi = ((s.memRead s.sp).2.memRead (s.sp + 1#16)).1 ∧
      r = { ((s.memRead s.sp).2.memRead (s.sp + 1#16)).2 with sp := s.sp + 2#16 } ∧ lo = 0x28 ∧ hi = 0x12 :=
  ⟨{ State.reset with sp := 0xFFFF, mem := [(0x0000, 0x12), (0xFFFF, 0x28)] }, _, _, _, rfl, rfl, rfl,
    by decide, by decide⟩

theorem witness_PopPswUndoesPushPsw :
    ∃ s : State, s.sp = 0 ∧ s.mem.wf = true ∧ s.kindAt (s.sp - 1#16) = .ram ∧ s.kindAt (s.sp - 2#16) = .ram :=
  ⟨State.reset, by decide⟩

theorem witness_XthlResults : mappedState.mem.wf = true := by decide

theorem witness_XthlTwiceRestores :
    ∃ s : State, s.sp = 0xFFFF ∧ s.mem.wf = true ∧ s.kindAt s.sp = .ram ∧ s.kindAt (s.sp + 1#16) = .ram :=
  ⟨{ State.reset with sp := 0xFFFF, mem := [(0x0000, 0x44), (0xFFFF, 0x33)] }, by decide⟩

theorem witness_InputReadsADraw : mappedState.envBytes = 0x77 :: [] ∧ State.reset.envBytes = [] := by decide

theorem witness_UndocumentedActAsOnSilicon :
    siliconReset.mem.wf = true ∧ siliconReset.params.undocOpcodes = .asSilicon := by decide

theorem witness_UndocumentedAreRefused :
    State.reset.params.undocOpcodes = .refuse := by decide

/-- A one-byte and a three-byte value, the second in the last byte of memory, with an interrupt held off by ei_delay. -/
theorem witness_RefusedOpcodeLeavesPcPastByteOne :
    (∃ s : State, (0x08#8 : Byte) ∈ undocumentedValues ∧ s.params.undocOpcodes = .refuse ∧
      s.currentInputs.reset = false ∧ s.accepts s.currentInputs = false ∧ s.halted = false ∧ s.readable s.pc ∧
      s.peek s.pc = 0x08) ∧
    (∃ s : State, (0xFD#8 : Byte) ∈ undocumentedValues ∧ s.params.undocOpcodes = .refuse ∧
      s.currentInputs.reset = false ∧ s.accepts s.currentInputs = false ∧ s.halted = false ∧ s.readable s.pc ∧
      s.peek s.pc = 0xFD ∧ s.pc = 0xFFFF ∧ s.currentInputs.int = true) :=
  ⟨⟨{ State.reset with mem := [(0x0000, 0x08)] },
      by decide, rfl, rfl, rfl, rfl, by unfold State.readable; decide, rfl⟩,
    ⟨{ State.reset with
        pc := 0xFFFF, inte := true, eiDelay := true, inputs := [interruptWith 0xFF], mem := [(0xFFFF, 0xFD)] },
      by decide, rfl, rfl, rfl, rfl, by unfold State.readable; decide, rfl, rfl, rfl⟩⟩
end

/-! ## What an operand r reads (R8, R22) -/

namespace Sys2Proof.Machine

/-- R8, R20: reading a register as an operand touches no state. -/
@[simp] theorem State.readOpd_reg (s : State) (q : Reg) : s.readOpd (.reg q) = (s.getReg q, s) := rfl

/-- R21: H is the high byte of the address held in HL. -/
theorem State.hl_eq_append (s : State) : s.hl = s.h ++ s.l := rfl

/-- R22: M is one memory read, which may draw a byte where HL addresses a device. -/
theorem State.readOpd_m (s : State) : s.readOpd .m = s.memRead (s.h ++ s.l) := by
  rw [← s.hl_eq_append]
  rfl

/-- Settles O34, operand by operand: the seven registers, then M. -/
theorem operandReads : Obligations.OperandReads := fun s =>
  ⟨s.readOpd_reg .b, s.readOpd_reg .c, s.readOpd_reg .d, s.readOpd_reg .e, s.readOpd_reg .h, s.readOpd_reg .l,
    s.readOpd_reg .a, s.readOpd_m⟩

end Sys2Proof.Machine

/-! ## What an instruction leaves unchanged (R20 to R34): one footprint for each, held to `exec` once -/

namespace Sys2Proof.Machine

/-- Where an outcome answers a next state, `P` holds of it. -/
def Answers (P : State → Prop) (o : Host.Outcome State Fault Refusal) : Prop := ∀ t, o = .next t → P t

theorem Answers.next {P : State → Prop} {t : State} (h : P t) : Answers P (.next t) := by
  rintro _ ⟨⟩
  exact h

theorem Answers.undocumented {P : State → Prop} {silicon : State} (h : P silicon) (op : Byte) (s : State) :
    Answers P (undocumented op silicon s) := by
  rcases undocumented_cases op silicon s with ⟨-, e⟩ | ⟨-, e⟩ <;> rw [e]
  · rintro _ ⟨⟩
  · exact .next h

/-- What a change of state is allowed to touch, of the state vector of R36. -/
structure Footprint where
  regs : List Reg
  sp : Bool
  pc : Bool
  flags : Bool
  inte : Bool
  halted : Bool
  eiDelay : Bool

/-- The footprint that the spec's tables give an instruction. -/
def footprint (i : Instr) : Footprint where
  regs := i.writesRegs
  sp := i.writesSp
  pc := i.writesPc
  flags := decide (i.flagRow ≠ .none)
  inte := decide (i = .ei ∨ i = .di)
  halted := decide (i = .hlt)
  eiDelay := decide (i = .ei)

/-- From `s` to `t` nothing of the state vector changed outside the footprint `w`, and memory stayed canonical. -/
structure Within (w : Footprint) (s t : State) : Prop where
  regs : ∀ q, q ∉ w.regs → t.getReg q = s.getReg q
  sp : w.sp = false → t.sp = s.sp
  pc : w.pc = false → t.pc = s.pc
  flags : w.flags = false → FlagRow.none.holds s t
  inte : w.inte = false → t.inte = s.inte
  halted : w.halted = false → t.halted = s.halted
  eiDelay : w.eiDelay = false → t.eiDelay = s.eiDelay
  mem : s.mem.wf = true → t.mem.wf = true

namespace Within

variable {w : Footprint} {s t u : State}

theorem refl : Within w s s where
  regs _ _ := rfl
  sp _ := rfl
  pc _ := rfl
  flags _ := ⟨rfl, rfl, rfl, rfl, rfl⟩
  inte _ := rfl
  halted _ := rfl
  eiDelay _ := rfl
  mem h := h

theorem trans (h : Within w s t) (k : Within w t u) : Within w s u where
  regs q hq := (k.regs q hq).trans (h.regs q hq)
  sp hw := (k.sp hw).trans (h.sp hw)
  pc hw := (k.pc hw).trans (h.pc hw)
  flags hw := by
    obtain ⟨hs, hz, ha, hp, hc⟩ := h.flags hw
    obtain ⟨ks, kz, ka, kp, kc⟩ := k.flags hw
    exact ⟨ks.trans hs, kz.trans hz, ka.trans ha, kp.trans hp, kc.trans hc⟩
  inte hw := (k.inte hw).trans (h.inte hw)
  halted hw := (k.halted hw).trans (h.halted hw)
  eiDelay hw := (k.eiDelay hw).trans (h.eiDelay hw)
  mem hm := k.mem (h.mem hm)

/-! ### Registers, SP, PC and the flags: a write stays within every footprint that has its destination -/

theorem withRegs {a b c d e h l : Byte}
    (hr : ∀ q, q ∉ w.regs →
      State.getReg { s with a := a, b := b, c := c, d := d, e := e, h := h, l := l } q = s.getReg q) :
    Within w s { s with a := a, b := b, c := c, d := d, e := e, h := h, l := l } :=
  { refl (s := s) with regs := hr }

theorem setReg {q : Reg} (h : q ∈ w.regs) (v : Byte) : Within w s (s.setReg q v) := by
  have hr : ∀ q', q' ∉ w.regs → (s.setReg q v).getReg q' = s.getReg q' :=
    fun _ hq => s.setReg_getReg_ne v (ne_of_mem_of_not_mem h hq).symm
  rw [s.setReg_only q v] at hr ⊢
  exact withRegs hr

theorem setSp (h : w.sp = true) (x : Word) : Within w s { s with sp := x } :=
  { refl (s := s) with sp := fun hw => absurd h (by simp [hw]) }

theorem setPc (h : w.pc = true) (x : Word) : Within w s { s with pc := x } :=
  { refl (s := s) with pc := fun hw => absurd h (by simp [hw]) }

theorem withFlags (h : w.flags = true) {f1 f2 f3 f4 f5 : Bool} :
    Within w s { s with sf := f1, zf := f2, acf := f3, pf := f4, cyf := f5 } :=
  { refl (s := s) with flags := fun hw => absurd h (by simp [hw]) }

theorem setHL (hh : .h ∈ w.regs) (hl : .l ∈ w.regs) (x y : Byte) : Within w s { s with h := x, l := y } :=
  (setReg hh x).trans (setReg hl y)

theorem setPair {q : Pair} (hr : ∀ r ∈ q.regs, r ∈ w.regs) (hsp : q = .sp → w.sp = true) (v : Word) :
    Within w s (s.setPair q v) := by
  cases q with
  | bc => exact (setReg (hr .b (by decide)) (hiByte v)).trans (setReg (hr .c (by decide)) (loByte v))
  | de => exact (setReg (hr .d (by decide)) (hiByte v)).trans (setReg (hr .e (by decide)) (loByte v))
  | hl => exact setHL (hr .h (by decide)) (hr .l (by decide)) _ _
  | sp => exact setSp (hsp rfl) v

theorem setAluFlags (hf : w.flags = true) (r : Byte × Bool × Bool) : Within w s (s.setAluFlags r) :=
  withFlags hf

theorem setAlu (ha : .a ∈ w.regs) (hf : w.flags = true) (r : Byte × Bool × Bool) : Within w s (s.setAlu r) :=
  (setAluFlags hf r).trans (setReg ha r.1)

theorem setRotated (ha : .a ∈ w.regs) (hf : w.flags = true) (r : Byte × Bool) : Within w s (s.setRotated r) :=
  (setReg ha r.1).trans (withFlags hf)

/-! ### Memory and the environment: nothing of the state vector -/

theorem draw : Within w s s.draw.2 := by
  rcases s.draw_cases with ⟨_, _, -, e⟩ | ⟨-, e⟩ <;> rw [e] <;> exact { refl (s := s) with }

theorem memRead (x : Word) : Within w s (s.memRead x).2 := by
  rw [State.memRead_only]
  exact { refl (s := s) with }

theorem memWrite (x : Word) (v : Byte) : Within w s (s.memWrite x v) := by
  have hm : s.mem.wf = true → (s.memWrite x v).mem.wf = true := fun h => State.memWrite_wf h x v
  rcases s.memWrite_cases x v with ⟨-, e⟩ | ⟨-, e⟩ | ⟨-, e⟩ <;> rw [e] at hm ⊢ <;>
    exact { refl (s := s) with mem := hm }

/-! ### Operands, the stack and the branches -/

theorem readOpd (o : Opd) : Within w s (s.readOpd o).2 := by
  cases o with
  | reg q => exact refl
  | m => exact memRead s.hl

theorem writeOpd {o : Opd} (h : ∀ r ∈ o.regs, r ∈ w.regs) (v : Byte) : Within w s (s.writeOpd o v) := by
  cases o with
  | reg q => exact setReg (h q (.head _)) v
  | m => exact memWrite s.hl v

theorem push16 (h : w.sp = true) (v : Word) : Within w s (s.push16 v) :=
  ((memWrite _ _).trans (memWrite _ _)).trans (setSp h _)

theorem pop16 (h : w.sp = true) : Within w s s.pop16.2 :=
  ((memRead _).trans (memRead _)).trans (setSp h _)

theorem callTo (hsp : w.sp = true) (hpc : w.pc = true) (x : Word) : Within w s (s.callTo x) :=
  (push16 hsp s.pc).trans (setPc hpc x)

theorem returnFromCall (hsp : w.sp = true) (hpc : w.pc = true) : Within w s s.returnFromCall :=
  (pop16 hsp).trans (setPc hpc _)

theorem jumpIf (hpc : w.pc = true) (k : Cond) (x : Word) : Within w s (s.jumpIf k x) := by
  unfold State.jumpIf
  split
  · exact setPc hpc x
  · exact refl

theorem callIf (hsp : w.sp = true) (hpc : w.pc = true) (k : Cond) (x : Word) : Within w s (s.callIf k x) := by
  unfold State.callIf
  split
  · exact callTo hsp hpc x
  · exact refl

theorem returnIf (hsp : w.sp = true) (hpc : w.pc = true) (k : Cond) : Within w s (s.returnIf k) := by
  unfold State.returnIf
  split
  · exact returnFromCall hsp hpc
  · exact refl

end Within

/-- Every instruction stays within the footprint of the tables (R20 to R34, R50): the transfers, the arithmetic, the
logical operations and the rotates, the branches, the stack, the rest, and the twelve values of R94. -/
theorem exec_within (i : Instr) (s : State) : Answers (Within (footprint i) s) (exec i s) := by
  cases i with
  | movRR _ _ | mviR _ _ => exact .next (.setReg (.head _) _)
  | movRM _ => exact .next (.trans (.memRead _) (.setReg (.head _) _))
  | movMR _ | mviM _ | sta _ | stax _ => exact .next (.memWrite _ _)
  | shld _ => exact .next (.trans (.memWrite _ _) (.memWrite _ _))
  | lda _ | ldax _ => exact .next (.trans (.memRead _) (.setReg (q := .a) (.head _) _))
  | lhld _ => exact .next (.trans (.trans (.memRead _) (.memRead _)) (.setHL (.head _) (.tail _ (.head _)) _ _))
  | xchg => exact .next (.trans (.setHL (by decide) (by decide) s.d s.e)
      (.trans (.setReg (q := .d) (by decide) s.h) (.setReg (q := .e) (by decide) s.l)))
  | sphl => exact .next (.setSp rfl _)
  | lxi _ _ | inx _ | dcx _ => exact .next (.setPair (fun _ => id) decide_eq_true _)
  | add o | adc o | sub o | sbb o | ana o | xra o | ora o =>
    exact .next (.trans (.readOpd o) (.setAlu (.head _) rfl _))
  | adi _ | aci _ | sui _ | sbi _ | ani _ | xri _ | ori _ | daa => exact .next (.setAlu (.head _) rfl _)
  | cmp o => exact .next (.trans (.readOpd o) (.setAluFlags rfl _))
  | cpi _ => exact .next (.setAluFlags rfl _)
  | inr o | dcr o => exact .next (.trans (.trans (.readOpd o) (.writeOpd (fun _ => id) _)) (.withFlags rfl))
  | dad _ => exact .next (.trans (.setPair (q := .hl) (fun _ => id) nofun _) (.withFlags rfl))
  | cma => exact .next (.setReg (q := .a) (.head _) _)
  | rlc | rrc | ral | rar => exact .next (.setRotated (.head _) rfl _)
  | jmp _ | pchl => exact .next (.setPc rfl _)
  | jnz _ | jz _ | jnc _ | jc _ | jpo _ | jpe _ | jp _ | jm _ => exact .next (.jumpIf rfl _ _)
  | call _ | rst _ => exact .next (.callTo rfl rfl _)
  | cnz _ | cz _ | cnc _ | cc _ | cpo _ | cpe _ | cp _ | cm _ => exact .next (.callIf rfl rfl _ _)
  | ret => exact .next (.returnFromCall rfl rfl)
  | rnz | rz | rnc | rc | rpo | rpe | rp | rm => exact .next (.returnIf rfl rfl _)
  | push _ | pushPsw => exact .next (.push16 rfl _)
  | pop _ => exact .next (.trans (.pop16 rfl) (.setPair (fun _ => id) (fun _ => rfl) _))
  | popPsw => exact .next (.trans (.trans (.pop16 rfl) (.withFlags rfl)) (.setReg (q := .a) (.head _) _))
  | xthl =>
    exact .next (.trans (.trans (.trans (.memRead _) (.memRead _)) (.trans (.memWrite _ _) (.memWrite _ _)))
      (.setHL (by decide) (by decide) _ _))
  | stc | cmc => exact .next (.withFlags rfl)
  | inPort _ => exact .next (.trans .draw (.setReg (q := .a) (.head _) _))
  | outPort _ => exact .next { Within.refl (s := s) with }
  | nop => exact .next .refl
  | hlt => exact .next { Within.refl (s := s) with halted := nofun }
  | di => exact .next { Within.refl (s := s) with inte := nofun }
  | ei => exact .next { Within.refl (s := s) with inte := nofun, eiDelay := nofun }
  | undoc08 | undoc10 | undoc18 | undoc20 | undoc28 | undoc30 | undoc38 => exact .undocumented .refl _ _
  | undocCB _ => exact .undocumented (.setPc rfl _) _ _
  | undocD9 => exact .undocumented (.returnFromCall rfl rfl) _ _
  | undocDD _ | undocED _ | undocFD _ => exact .undocumented (.callTo rfl rfl _) _ _

/-! ### The frame statements of registers, control state and flags -/

/-- Settles O22: what the footprint says of registers, SP and PC. -/
theorem registersWrittenOnlyWhereSaid : Obligations.RegistersWrittenOnlyWhereSaid := fun i s t h =>
  have hw := exec_within i s t h
  ⟨hw.regs, hw.sp, hw.pc⟩

/-- Settles O23: what the footprint says of INTE, halted and ei_delay. -/
theorem controlStateWrittenOnlyWhereSaid : Obligations.ControlStateWrittenOnlyWhereSaid := fun i s t h =>
  have hw := exec_within i s t h
  ⟨fun hei hdi => hw.inte (decide_eq_false fun hi => hi.elim hei hdi), fun hi => hw.halted (decide_eq_false hi),
    fun hi => hw.eiDelay (decide_eq_false hi)⟩

/-- DAA sets CY or leaves it, and never clears it (R147). -/
theorem decimalAdjust_keeps_carry (x : Byte) (ac : Bool) : (decimalAdjust x ac true).2.1 = true := by
  simp [decimalAdjust]

/-- Settles O20, row by row of R30's table; the last row is the footprint's. -/
theorem flagsAreWrittenAsTabulated : Obligations.FlagsAreWrittenAsTabulated := by
  intro i s
  show Answers (i.flagRow.holds s) (exec i s)
  cases i with
  | add _ | adi _ | adc _ | aci _ | sub _ | sui _ | sbb _ | sbi _ | cmp _ | cpi _ | popPsw => exact .next trivial
  | inr o | dcr o => exact .next (((s.readOpd o).2.writeOpd_cyf o _).trans (s.readOpd_cyf o))
  | ana _ | ani _ => exact .next rfl
  | ora _ | ori _ | xra _ | xri _ => exact .next ⟨rfl, rfl⟩
  | daa => exact .next fun hc => hc ▸ decimalAdjust_keeps_carry s.a s.acf
  | dad _ => exact .next ⟨rfl, rfl, rfl, rfl⟩
  | rlc | rrc | ral | rar => exact .next ⟨rfl, rfl, rfl, rfl⟩
  | stc | cmc => exact .next ⟨rfl, rfl, rfl, rfl, rfl⟩
  | _ => exact fun t h => (exec_within _ s t h).flags rfl

/-! ### RESET and one step (R45, R97) -/

/-- Settles O5, by the four fields of the reset state (R45). -/
theorem resetHoldsTheSpecsValues : Obligations.ResetHoldsTheSpecsValues := ⟨rfl, rfl, rfl, rfl⟩

/-- Settles O17: memory lists nothing, and ei_delay is clear. -/
theorem resetMeetsTheInvariant : Obligations.ResetMeetsTheInvariant := ⟨rfl, nofun⟩

section
variable {s : State}

/-- R281, first: RESET. -/
theorem step_of_reset (h : s.currentInputs.reset = true) : step s = .next s.consumeInputs.applyReset := by
  simp [step, h]

/-- R281, second: an acceptable interrupt. -/
theorem step_of_accepts (hr : s.currentInputs.reset = false) (ha : s.accepts s.currentInputs = true) :
    step s = acceptInterrupt s.currentInputs s.consumeInputs := by
  simp [step, hr, ha]

/-- R281, third: halted. -/
theorem step_of_halted (hr : s.currentInputs.reset = false) (ha : s.accepts s.currentInputs = false)
    (hh : s.halted = true) : step s = .next s.consumeInputs := by
  simp [step, hr, ha, hh]

/-- R281, last: the instruction at PC. -/
theorem step_of_running (hr : s.currentInputs.reset = false) (ha : s.accepts s.currentInputs = false)
    (hh : s.halted = false) : step s = runInstruction s.consumeInputs := by
  simp [step, hr, ha, hh]

end

/-- Settles O9: the third branch of the step. -/
theorem haltedStepWaits : Obligations.HaltedStepWaits := fun _ hh hr ha => step_of_halted hr ha hh

/-- From a state with ei_delay clear and not halted, every instruction answers a state that meets the invariant: EI
alone sets ei_delay, and it sets INTE and leaves halted clear (R34, R97). -/
theorem exec_inv (i : Instr) {s : State} (hm : s.mem.wf = true) (hd : s.eiDelay = false) (hh : s.halted = false) :
    Answers State.Inv (exec i s) := by
  intro t h
  have hw := exec_within i s t h
  refine ⟨hw.mem hm, fun ht => ?_⟩
  by_cases hi : i = .ei
  · subst hi
    obtain rfl : { s with inte := true, eiDelay := true } = t := by simpa [exec, execEi] using h
    exact ⟨rfl, hh⟩
  · rw [hw.eiDelay (decide_eq_false hi), hd] at ht
    exact absurd ht nofun

/-- The instruction at PC runs with ei_delay cleared, and its fetch changes PC and the environment only (R97). -/
theorem runInstruction_inv {s : State} (hm : s.mem.wf = true) (hh : s.halted = false) :
    Answers State.Inv (runInstruction s) := by
  unfold runInstruction
  dsimp only
  rw [State.fetchInstr_only]
  exact exec_inv _ hm rfl hh

/-- The acknowledge clears INTE, halted and ei_delay before anything runs (R276). -/
theorem acceptInterrupt_inv (k : StepInputs) {s : State} (hm : s.mem.wf = true) :
    Answers State.Inv (acceptInterrupt k s) := by
  unfold acceptInterrupt
  split
  · exact .next ⟨State.push16_wf (s := s.acknowledge) hm _, fun hd => absurd hd (by simp [State.takeInterrupt])⟩
  · split
    · rintro _ ⟨⟩
    · exact exec_inv _ hm rfl rfl

/-- The invariant is kept in each of the step's four branches (R281). -/
theorem step_inv {s : State} (hi : s.Inv) : Answers State.Inv (step s) := by
  obtain ⟨hm, hd⟩ := hi
  cases hr : s.currentInputs.reset with
  | true =>
    rw [step_of_reset hr]
    exact .next ⟨hm, nofun⟩
  | false =>
    cases ha : s.accepts s.currentInputs with
    | true =>
      rw [step_of_accepts hr ha]
      exact acceptInterrupt_inv _ hm
    | false =>
      cases hh : s.halted with
      | true =>
        rw [step_of_halted hr ha hh]
        exact .next ⟨hm, hd⟩
      | false =>
        rw [step_of_running hr ha hh]
        exact runInstruction_inv hm hh

/-- Settles O16: memory through the footprint, ei_delay through EI alone. -/
theorem stepKeepsTheInvariant : Obligations.StepKeepsTheInvariant := fun _ t hi => step_inv hi t

/-! ### What the instruction at PC is (R24(b), R80, R83, R94) -/

/-- Whatever the operand bytes, the decoded instruction is encoded with the byte 1 it was decoded from: evaluated for
each of the 256 values, the operand bytes left open. -/
theorem opcode_decodeBytes (b2 b3 : Byte) : ∀ op : Byte, (encode (decodeBytes op b2 b3)).headD 0#8 = op :=
  of_decide_eq_true rfl

/-- Whatever the operand bytes, the decoded instruction is as long as its byte 1 says. -/
theorem length_decodeBytes (b2 b3 : Byte) : ∀ op : Byte, (encode (decodeBytes op b2 b3)).length = opcodeLength op :=
  of_decide_eq_true rfl

theorem fetched_decodeBytes (mode : UndocOpcodes) (op b2 b3 : Byte) :
    (decodeBytes op b2 b3).fetched mode = fetchLength mode op := by
  rw [Instr.fetched, opcode_decodeBytes, length_decodeBytes, fetchLength_eq]
  simp [isUndocumented, undocumentedValues]

/-- Three bytes always decode, and of the two after byte 1 only those the length covers are used. -/
theorem decode_three (op b2 b3 : Byte) : ∃ rest, decode [op, b2, b3] =
    .ok (decodeBytes op (if opcodeLength op = 1 then 0#8 else b2) (if opcodeLength op = 3 then b3 else 0#8), rest) := by
  rcases opcodeLength_cases op with h | h | h <;> simp [decode, h]

theorem exec_undocumented {op : Byte} (h : isUndocumented op = true) (b2 b3 : Byte) (s : State) :
    ∃ silicon, exec (decodeBytes op b2 b3) s = undocumented op silicon s := by
  simp only [isUndocumented, List.mem_cons, List.not_mem_nil, or_false, decide_eq_true_eq] at h
  rcases h with rfl | rfl | rfl | rfl | rfl | rfl | rfl | rfl | rfl | rfl | rfl | rfl <;> exact ⟨_, rfl⟩

/-- A refused value is refused whatever its operand bytes (R94). -/
theorem exec_refused {op : Byte} (h : isUndocumented op = true) (b2 b3 : Byte) {s : State}
    (hm : s.params.undocOpcodes = .refuse) : exec (decodeBytes op b2 b3) s = .refused (.undocumentedOpcode op s) := by
  obtain ⟨silicon, e⟩ := exec_undocumented h b2 b3 s
  rw [e, undocumented, hm]

/-- Where the bytes fetched are memory, the instruction fetched runs as the one the three bytes at PC decode to, with PC
past the bytes fetched; of a refused value the operand bytes, which are not fetched, make no difference. -/
theorem exec_fetchInstr {s : State} {i : Instr} {rest : List Byte}
    (hk : ∀ k, k < i.fetched s.params.undocOpcodes → s.readable (s.pc + BitVec.ofNat 16 k))
    (hd : decode [s.peek s.pc, s.peek (s.pc + 1#16), s.peek (s.pc + 2#16)] = .ok (i, rest)) :
    exec s.fetchInstr.1 s.fetchInstr.2 =
      exec i { s with pc := s.pc + BitVec.ofNat 16 (i.fetched s.params.undocOpcodes) } := by
  obtain ⟨rest', e⟩ := decode_three (s.peek s.pc) (s.peek (s.pc + 1#16)) (s.peek (s.pc + 2#16))
  obtain ⟨rfl, -⟩ := Prod.mk.inj (Except.ok.inj (e.symm.trans hd))
  rw [fetched_decodeBytes] at hk ⊢
  rw [State.fetchInstr_memory (n := fetchLength s.params.undocOpcodes (s.peek s.pc)) rfl hk]
  by_cases h : s.params.undocOpcodes = .refuse ∧ isUndocumented (s.peek s.pc) = true
  · obtain ⟨hm, hu⟩ := h
    show exec (decodeBytes (s.peek s.pc) _ _) { s with pc := _ } = _
    rw [exec_refused hu, exec_refused hu] <;> exact hm
  · rw [fetchLength_eq, if_neg h]
    rfl

/-- Settles O7: the last branch of the step, then the fetch. -/
theorem stepRunsTheDecodedInstruction : Obligations.StepRunsTheDecodedInstruction := fun s _ _ hr ha hh =>
  have hs := step_of_running hr ha hh
  ⟨hs, fun hk hd => hs.trans (exec_fetchInstr (s := { s with eiDelay := false, inputs := s.inputs.tail }) hk hd)⟩

/-! ### EI (R34, R253) -/

/-- An instruction is decoded from no byte 1 but the one it is encoded with. -/
theorem opcode_of_decodeBytes_eq {op b2 b3 : Byte} {i : Instr} (h : decodeBytes op b2 b3 = i) :
    op = (encode i).headD 0#8 := by
  rw [← h, opcode_decodeBytes]

/-- An instruction read from RAM or ROM that is no EI leaves ei_delay clear, and unless it is DI it leaves INTE. -/
theorem runInstruction_control {s : State} (hk : s.readable s.pc) (hei : s.peek s.pc ≠ 0xFB#8) :
    Answers (fun u => u.eiDelay = false ∧ (s.peek s.pc ≠ 0xF3#8 → u.inte = s.inte)) (runInstruction s) := by
  intro u hu
  have hw := exec_within _ _ u hu
  obtain ⟨b2, b3, hf⟩ := State.fetchInstr_opcode (s := { s with eiDelay := false }) hk
  have ne {i : Instr} (h : s.peek s.pc ≠ (encode i).headD 0#8) :
      (State.fetchInstr { s with eiDelay := false }).1 ≠ i :=
    fun e => h (opcode_of_decodeBytes_eq (hf.symm.trans e))
  rw [State.fetchInstr_only] at hw
  exact ⟨hw.eiDelay (decide_eq_false (ne hei)),
    fun hdi => hw.inte (decide_eq_false fun h => h.elim (ne hei) (ne hdi))⟩

/-- EI at PC: one byte is fetched, INTE and ei_delay are set (R253). -/
theorem step_of_ei {s : State} (hr : s.currentInputs.reset = false) (ha : s.accepts s.currentInputs = false)
    (hh : s.halted = false) (hk : s.readable s.pc) (hp : s.peek s.pc = 0xFB#8) :
    step s = .next { s with pc := s.pc + 1#16, inte := true, eiDelay := true, inputs := s.inputs.tail } := by
  have hd : decode [s.peek s.pc, s.peek (s.pc + 1#16), s.peek (s.pc + 2#16)] =
      .ok (.ei, [s.peek (s.pc + 1#16), s.peek (s.pc + 2#16)]) := by rw [hp]; rfl
  have hn : Instr.ei.fetched s.params.undocOpcodes = 1 := by cases s.params.undocOpcodes <;> rfl
  obtain ⟨-, hs⟩ := stepRunsTheDecodedInstruction s .ei _ hr ha hh
  rw [hn] at hs
  refine hs (fun k hk1 => ?_) hd
  obtain rfl : k = 0 := by omega
  simpa using hk

/-- The step after EI runs the next instruction, whatever INT is; after it the boundary is open, but where that
instruction is EI or DI (R34, R275). -/
theorem step_after_ei {t : State} (hr : t.currentInputs.reset = false) (hi : t.inte = true) (hd : t.eiDelay = true)
    (hh : t.halted = false) :
    step t = runInstruction t.consumeInputs ∧
      ∀ u, step t = .next u → t.readable t.pc → t.peek t.pc ≠ 0xFB#8 →
        u.eiDelay = false ∧ (t.peek t.pc ≠ 0xF3#8 → u.accepts u.currentInputs = u.currentInputs.int) := by
  have hs := step_of_running hr (by simp [State.accepts, hd]) hh
  refine ⟨hs, fun u hu hk hei => ?_⟩
  obtain ⟨hud, hui⟩ := runInstruction_control (s := t.consumeInputs) hk hei u (hs.symm.trans hu)
  exact ⟨hud, fun hdi => by simp [State.accepts, hud, hui hdi, hi]⟩

/-- Settles O8: the step of EI, then the step after it. -/
theorem eiHoldsOffOneBoundary : Obligations.EiHoldsOffOneBoundary := fun _ hr ha hh hk hp =>
  ⟨_, step_of_ei hr ha hh hk hp, rfl, fun hr' => step_after_ei hr' rfl rfl hh⟩

/-! ### PUSH PSW and POP PSW (R27, R228, R230) -/

/-- Setting the flags from a state's flag byte sets them to that state's (R27). -/
theorem setFlags_flagByte (s t : State) :
    t.setFlags s.flagByte = { t with sf := s.sf, zf := s.zf, acf := s.acf, pf := s.pf, cyf := s.cyf } := by
  obtain ⟨hs, hz, ha, hp, hc⟩ := s.flagByte_bits
  rw [State.setFlags, hs, hz, ha, hp, hc]

/-- A pop after a push to RAM returns the word pushed, whatever A and the flags have become between. -/
theorem pop16_push16_withPsw {s : State} (hw : s.mem.wf = true) (h1 : s.kindAt (s.sp - 1#16) = .ram)
    (h2 : s.kindAt (s.sp - 2#16) = .ram) (w : Word) (v : Byte) (f1 f2 f3 f4 f5 : Bool) :
    State.pop16 { s.push16 w with a := v, sf := f1, zf := f2, acf := f3, pf := f4, cyf := f5 } =
      (w, { s with a := v, sf := f1, zf := f2, acf := f3, pf := f4, cyf := f5, mem := (s.push16 w).mem }) := by
  have commute : { s.push16 w with a := v, sf := f1, zf := f2, acf := f3, pf := f4, cyf := f5 } =
      State.push16 { s with a := v, sf := f1, zf := f2, acf := f3, pf := f4, cyf := f5 } w := by
    simp only [State.kindAt] at h1 h2
    simp [State.push16, State.memWrite, State.kindAt, h1, h2]
  have e := State.pop16_push16 (s := { s with a := v, sf := f1, zf := f2, acf := f3, pf := f4, cyf := f5 }) hw w h1 h2
  rw [← commute] at e
  exact e

/-- Settles O50: the high byte of the word popped is A, the low byte holds the five flags. -/
theorem popPswUndoesPushPsw : Obligations.PopPswUndoesPushPsw := by
  intro s hw h1 h2
  refine ⟨_, rfl, fun v f1 f2 f3 f4 f5 => ⟨_, rfl, ?_⟩⟩
  rw [pop16_push16_withPsw hw h1 h2]
  simp [setFlags_flagByte]

end Sys2Proof.Machine

/-! ## What reaches memory and the environment (R50 to R71): one traffic for each instruction, held to `exec` once -/

namespace Sys2Proof.Machine

/-- Where a change of state is allowed to reach memory and the environment. -/
structure Traffic where
  stores : List Word
  loads : List Word
  outputs : Prop
  inputs : Prop

/-- The traffic that the spec's tables give an instruction executed in `s` (R52, R58, R71). -/
def traffic (i : Instr) (s : State) : Traffic where
  stores := i.stores s
  loads := i.loads s
  outputs := ∃ p, i = .outPort p
  inputs := ∃ p, i = .inPort p

/-- From `s` to `t` nothing reached memory or the environment outside the traffic `w`, and no byte of ROM changed. -/
structure Accesses (w : Traffic) (s t : State) : Prop where
  params : t.params = s.params
  wf : s.mem.wf = true → t.mem.wf = true
  mem : s.mem.wf = true → ∀ x, x ∉ w.stores → t.peek x = s.peek x
  rom : s.mem.wf = true → ∀ x, s.kindAt x = .rom → t.peek x = s.peek x
  inputs : t.inputs = s.inputs
  outputs : ¬w.outputs → t.outputs = s.outputs
  busWrites : (∀ x ∈ w.stores, s.kindAt x ≠ .device) → t.busWrites = s.busWrites
  draws : ¬w.inputs → (∀ x ∈ w.loads, s.kindAt x ≠ .device) → t.envBytes = s.envBytes ∧ t.drawCount = s.drawCount

namespace Accesses

variable {w : Traffic} {s t u : State}

theorem refl : Accesses w s s where
  params := rfl
  wf h := h
  mem _ _ _ := rfl
  rom _ _ _ := rfl
  inputs := rfl
  outputs _ := rfl
  busWrites _ := rfl
  draws _ _ := ⟨rfl, rfl⟩

/-- The memory map is a parameter, so that an address keeps its kind (R64). -/
theorem kindAt (h : Accesses w s t) (x : Word) : t.kindAt x = s.kindAt x := by
  rw [State.kindAt, h.params, State.kindAt]

theorem trans (h : Accesses w s t) (k : Accesses w t u) : Accesses w s u where
  params := k.params.trans h.params
  wf hm := k.wf (h.wf hm)
  mem hm x hx := (k.mem (h.wf hm) x hx).trans (h.mem hm x hx)
  rom hm x hx := (k.rom (h.wf hm) x ((h.kindAt x).trans hx)).trans (h.rom hm x hx)
  inputs := k.inputs.trans h.inputs
  outputs hw := (k.outputs hw).trans (h.outputs hw)
  busWrites hd := (k.busWrites fun x hx => h.kindAt x ▸ hd x hx).trans (h.busWrites hd)
  draws hw hd := by
    obtain ⟨he, hc⟩ := h.draws hw hd
    obtain ⟨ke, kc⟩ := k.draws hw fun x hx => h.kindAt x ▸ hd x hx
    exact ⟨ke.trans he, kc.trans hc⟩

/-! ### The state vector of R36: no traffic -/

theorem stateVector {a b c d e h l : Byte} {sp pc : Word} {sf zf acf pf cyf inte halted eiDelay : Bool} :
    Accesses w s { s with
      a := a, b := b, c := c, d := d, e := e, h := h, l := l, sp := sp, pc := pc, sf := sf, zf := zf, acf := acf,
      pf := pf, cyf := cyf, inte := inte, halted := halted, eiDelay := eiDelay } :=
  { refl (s := s) with }

theorem setReg (q : Reg) (v : Byte) : Accesses w s (s.setReg q v) := by
  rw [State.setReg_only]
  exact stateVector

theorem setPair (q : Pair) (v : Word) : Accesses w s (s.setPair q v) := by
  rw [State.setPair_only]
  exact stateVector

theorem jumpIf (k : Cond) (x : Word) : Accesses w s (s.jumpIf k x) := by
  unfold State.jumpIf
  split
  · exact stateVector
  · exact refl

/-! ### Draws, reads and writes: within every traffic that has their port or address -/

theorem draw (h : w.inputs) : Accesses w s s.draw.2 := by
  rcases s.draw_cases with ⟨_, _, -, e⟩ | ⟨-, e⟩ <;> rw [e] <;>
    exact { refl (s := s) with draws := fun hw => absurd h hw }

theorem memRead {x : Word} (h : x ∈ w.loads) : Accesses w s (s.memRead x).2 := by
  have hd : (∀ y ∈ w.loads, s.kindAt y ≠ .device) →
      (s.memRead x).2.envBytes = s.envBytes ∧ (s.memRead x).2.drawCount = s.drawCount := fun hd => by
    rw [State.memRead_memory (hd x h)]
    exact ⟨rfl, rfl⟩
  rw [State.memRead_only]
  exact { refl (s := s) with draws := fun _ => hd }

theorem memWrite {x : Word} (h : x ∈ w.stores) (v : Byte) : Accesses w s (s.memWrite x v) where
  params := s.memWrite_params x v
  wf hm := State.memWrite_wf hm x v
  mem hm _ hy := State.memWrite_read_ne hm (ne_of_mem_of_not_mem h hy).symm v
  rom hm _ hy := State.memWrite_read_rom hm hy x v
  inputs := s.memWrite_inputs x v
  outputs _ := s.memWrite_outputs x v
  busWrites hd := by
    rcases s.memWrite_cases x v with ⟨-, e⟩ | ⟨-, e⟩ | ⟨hk, -⟩
    · rw [e]
    · rw [e]
    · exact absurd hk (hd x h)
  draws _ _ := ⟨s.memWrite_envBytes x v, s.memWrite_drawCount x v⟩

/-! ### Operands and the stack -/

theorem readOpd {o : Opd} (h : ∀ x ∈ o.addresses s, x ∈ w.loads) : Accesses w s (s.readOpd o).2 := by
  cases o with
  | reg q => exact refl
  | m => exact memRead (h s.hl (.head _))

theorem writeOpd {o : Opd} (h : ∀ x ∈ o.addresses s, x ∈ w.stores) (v : Byte) : Accesses w s (s.writeOpd o v) := by
  cases o with
  | reg q => exact setReg q v
  | m => exact memWrite (h s.hl (.head _)) v

/-- Reading M leaves HL, so that the write back of INR M and DCR M goes to the address read (R22). -/
theorem readOpd_writeOpd {o : Opd} (hl : ∀ x ∈ o.addresses s, x ∈ w.loads) (hs : ∀ x ∈ o.addresses s, x ∈ w.stores)
    (v : Byte) : Accesses w s ((s.readOpd o).2.writeOpd o v) := by
  have same : o.addresses (s.readOpd o).2 = o.addresses s := by cases o <;> simp [Opd.addresses, State.hl]
  exact (readOpd hl).trans (writeOpd (same ▸ hs) v)

theorem push16 (h : ∀ x ∈ s.pushAddresses, x ∈ w.stores) (v : Word) : Accesses w s (s.push16 v) :=
  ((memWrite (h _ (.head _)) _).trans (memWrite (h _ (.tail _ (.head _))) _)).trans stateVector

theorem pop16 (h : ∀ x ∈ s.popAddresses, x ∈ w.loads) : Accesses w s s.pop16.2 :=
  ((memRead (h _ (.head _))).trans (memRead (h _ (.tail _ (.head _))))).trans stateVector

theorem callTo (h : ∀ x ∈ s.pushAddresses, x ∈ w.stores) (x : Word) : Accesses w s (s.callTo x) :=
  (push16 h s.pc).trans stateVector

theorem returnFromCall (h : ∀ x ∈ s.popAddresses, x ∈ w.loads) : Accesses w s s.returnFromCall :=
  (pop16 h).trans stateVector

/-- A call not taken has no traffic (R193 to R200). -/
theorem callIf {k : Cond} (h : s.cond k = true → ∀ x ∈ s.pushAddresses, x ∈ w.stores) (x : Word) :
    Accesses w s (s.callIf k x) := by
  unfold State.callIf
  split
  next hk => exact callTo (h hk) x
  next => exact refl

/-- A return not taken does not read the stack (R203 to R210). -/
theorem returnIf {k : Cond} (h : s.cond k = true → ∀ x ∈ s.popAddresses, x ∈ w.loads) :
    Accesses w s (s.returnIf k) := by
  unfold State.returnIf
  split
  next hk => exact returnFromCall (h hk)
  next => exact refl

end Accesses

/-- Every instruction keeps to the traffic of the tables (R52, R58, R71). -/
theorem exec_accesses (i : Instr) (s : State) : Answers (Accesses (traffic i s) s) (exec i s) := by
  cases i with
  | movRR _ _ | mviR _ _ => exact .next (.setReg _ _)
  | movRM _ => exact .next (.trans (.memRead (.head _)) (.setReg _ _))
  | movMR _ | mviM _ | sta _ | stax _ => exact .next (.memWrite (.head _) _)
  | shld _ => exact .next (.trans (.memWrite (.head _) _) (.memWrite (.tail _ (.head _)) _))
  | lda _ | ldax _ => exact .next (.trans (.memRead (.head _)) .stateVector)
  | lhld _ => exact .next (.trans (.trans (.memRead (.head _)) (.memRead (.tail _ (.head _)))) .stateVector)
  | lxi _ _ | inx _ | dcx _ => exact .next (.setPair _ _)
  | add o | adc o | sub o | sbb o | ana o | xra o | ora o | cmp o =>
    exact .next (.trans (.readOpd (o := o) fun _ => id) .stateVector)
  | inr o | dcr o => exact .next (.trans (.readOpd_writeOpd (fun _ => id) (fun _ => id) _) .stateVector)
  | xchg | sphl | adi _ | aci _ | sui _ | sbi _ | ani _ | xri _ | ori _ | cpi _ | daa | dad _ | cma | rlc
  | rrc | ral | rar | jmp _ | pchl | stc | cmc | hlt | di | ei => exact .next .stateVector
  | jnz _ | jz _ | jnc _ | jc _ | jpo _ | jpe _ | jp _ | jm _ => exact .next (.jumpIf _ _)
  | call _ | rst _ => exact .next (.callTo (fun _ => id) _)
  | cnz _ | cz _ | cnc _ | cc _ | cpo _ | cpe _ | cp _ | cm _ =>
    exact .next (.callIf (fun hk => by simp_all [traffic, Instr.stores, State.cond]) _)
  | ret => exact .next (.returnFromCall fun _ => id)
  | rnz | rz | rnc | rc | rpo | rpe | rp | rm =>
    exact .next (.returnIf fun hk => by simp_all [traffic, Instr.loads, State.cond])
  | push _ | pushPsw => exact .next (.push16 (fun _ => id) _)
  | pop _ => exact .next (.trans (.pop16 fun _ => id) (.setPair _ _))
  | popPsw => exact .next (.trans (.pop16 fun _ => id) .stateVector)
  | xthl =>
    exact .next (.trans (.trans (.trans (.memRead (.head _)) (.memRead (.tail _ (.head _))))
      (.trans (.memWrite (.head _) _) (.memWrite (.tail _ (.head _)) _))) .stateVector)
  | inPort p => exact .next (.trans (.draw ⟨p, rfl⟩) .stateVector)
  | outPort p => exact .next { Accesses.refl (s := s) with outputs := fun hw => absurd ⟨p, rfl⟩ hw }
  | nop => exact .next .refl
  | undoc08 | undoc10 | undoc18 | undoc20 | undoc28 | undoc30 | undoc38 => exact .undocumented .refl _ _
  | undocCB _ => exact .undocumented .stateVector _ _
  | undocD9 => exact .undocumented (.returnFromCall fun _ => id) _ _
  | undocDD _ | undocED _ | undocFD _ => exact .undocumented (.callTo (fun _ => id) _) _ _

/-! ### The frame statements of memory and the environment -/

/-- Settles O21: what the traffic says of memory. -/
theorem storesOnlyAtTheTabulatedAddresses : Obligations.StoresOnlyAtTheTabulatedAddresses :=
  fun i s t hm h => (exec_accesses i s t h).mem hm

/-- Settles O24: what the traffic says of the environment's fields. -/
theorem environmentTouchedOnlyWhereSaid : Obligations.EnvironmentTouchedOnlyWhereSaid := fun i s t h =>
  have ha := exec_accesses i s t h
  ⟨ha.inputs, fun ho => ha.outputs fun ⟨p, e⟩ => ho p e, ha.busWrites, fun hi => ha.draws fun ⟨p, e⟩ => hi p e⟩

/-! ### ROM along a step (R64, R97) -/

/-- Every branch of the step is RESET, the acknowledge of an RST n, waiting while halted, or one instruction executed
with memory and the parameters as they are before the step (R97, R276, R278, R281). -/
theorem step_answers {P : State → Prop} {s : State} (reset : P s.consumeInputs.applyReset)
    (interrupt : ∀ n, P (s.consumeInputs.takeInterrupt n)) (wait : P s.consumeInputs)
    (run : ∀ i u, u.mem = s.mem → u.params = s.params → Answers P (exec i u)) : Answers P (step s) := by
  have accept : Answers P (acceptInterrupt s.currentInputs s.consumeInputs) := by
    unfold acceptInterrupt
    split
    · exact .next (interrupt _)
    · split
      · rintro _ ⟨⟩
      · exact run _ _ rfl rfl
  have fetch : Answers P (runInstruction s.consumeInputs) := by
    unfold runInstruction
    dsimp only
    rw [State.fetchInstr_only]
    exact run _ _ rfl rfl
  cases hr : s.currentInputs.reset with
  | true => exact step_of_reset hr ▸ .next reset
  | false =>
    cases ha : s.accepts s.currentInputs with
    | true => exact step_of_accepts hr ha ▸ accept
    | false =>
      cases hh : s.halted with
      | true => exact step_of_halted hr ha hh ▸ .next wait
      | false => exact step_of_running hr ha hh ▸ fetch

/-- Taking an interrupt stores at the two addresses of a push and has no other traffic (R277). -/
theorem takeInterrupt_accesses (s : State) (n : BitVec 3) :
    Accesses { stores := s.pushAddresses, loads := [], outputs := False, inputs := False } s (s.takeInterrupt n) :=
  .trans (.stateVector (s := s)) (.callTo (s := s.acknowledge) (fun _ => id) _)

/-- Settles O18: an interrupt's push of PC and every instruction keep ROM; nothing else of a step reaches memory. -/
theorem romNeverChanges : Obligations.RomNeverChanges := by
  intro s t x hm hk h
  refine step_answers (P := fun t => t.peek x = s.peek x) rfl (fun n => ?_) rfl (fun i u hum hup v hv => ?_) t h
  · exact (takeInterrupt_accesses s.consumeInputs n).rom hm x hk
  · have hku : u.kindAt x = .rom := by rwa [State.kindAt, hup]
    calc v.peek x
      _ = u.peek x := (exec_accesses i u v hv).rom (hum ▸ hm) x hku
      _ = s.peek x := congrArg (Memory.read · x.toNat) hum

/-! ### Reads and writes by the kind of address (R55, R56, R64) -/

/-- R58: the environment's next scheduled byte, the rest kept for later draws. -/
theorem State.draw_scheduled {s : State} {v : Byte} {rest : List Byte} (h : s.envBytes = v :: rest) :
    s.draw = (v, { s with envBytes := rest }) := by
  simp [State.draw, h]

/-- R58: with nothing scheduled, the next free value. -/
theorem State.draw_free {s : State} (h : s.envBytes = []) :
    s.draw = (Config.freeByte s.drawCount, { s with drawCount := s.drawCount + 1 }) := by
  simp [State.draw, h]

/-- Settles O25: a read of memory, and the two ways of drawing. -/
theorem readsByKindOfAddress : Obligations.ReadsByKindOfAddress := by
  intro s x
  exact ⟨fun hk => State.memRead_memory (by simp [hk]), fun hk => State.memRead_memory (by simp [hk]),
    fun hk _ _ he => (State.memRead_device hk).trans (State.draw_scheduled he),
    fun hk he => (State.memRead_device hk).trans (State.draw_free he)⟩

/-- A write to RAM changes memory and nothing else. -/
theorem State.memWrite_ram {s : State} {x : Word} (h : s.kindAt x = .ram) (v : Byte) :
    s.memWrite x v = { s with mem := s.mem.write x.toNat v } := by
  simp [State.memWrite, h]

/-- What a write does at each kind of address is what `StoresByte` says. -/
theorem storesByte_memWrite {s : State} (hm : s.mem.wf = true) (x : Word) (v : Byte) :
    StoresByte s (s.memWrite x v) x v := by
  refine ⟨?_, fun y hy => State.memWrite_read_ne hm hy v, fun hk => ?_, fun hk => ?_, fun hk => ?_⟩
  · rcases s.memWrite_cases x v with ⟨-, e⟩ | ⟨-, e⟩ | ⟨-, e⟩ <;> rw [e]
  · exact ⟨State.memWrite_read_self hm hk v, by rw [State.memWrite_ram hk]⟩
  · simp [State.memWrite, hk]
  · simp [State.memWrite, hk]

/-- Settles O26: the write, then a read and a fetch of the byte of RAM written (R66(a), R69). -/
theorem writesAreReadBack : Obligations.WritesAreReadBack := by
  intro s x v hm
  refine ⟨storesByte_memWrite hm x v, State.memWrite_wf hm x v, fun hk => ?_⟩
  have hk' : (s.memWrite x v).kindAt x ≠ .device := by simp [hk]
  have back := State.memWrite_read_self hm hk v
  refine ⟨by rw [State.memRead_memory hk', back], ?_⟩
  rintro _ rfl
  rw [State.fetch8_memory hk', back]

/-! ### Two bytes of RAM exchanged with HL (R59, R71, R118, R119, R231) -/

/-- What memory reads as after a write. -/
theorem Memory.read_write {m : Memory} (hm : m.wf = true) (x y : Word) (v : Byte) :
    (m.write x.toNat v).read y.toNat = if y = x then v else m.read y.toNat := by
  split
  next h => rw [h, Memory.read_write_self hm]
  next h => exact Memory.read_write_ne hm v (word_toNat_ne h)

/-- Two writes at distinct addresses are both read back. -/
theorem Memory.read_write_write {m : Memory} (hm : m.wf = true) {x y : Word} (h : x ≠ y) (v w : Byte) :
    ((m.write x.toNat v).write y.toNat w).read x.toNat = v ∧
      ((m.write x.toNat v).write y.toNat w).read y.toNat = w := by
  have hm' := Memory.wf_write hm x.isLt v
  exact ⟨by rw [Memory.read_write hm', if_neg h, Memory.read_write hm, if_pos rfl],
    by rw [Memory.read_write hm', if_pos rfl]⟩

/-- SHLD to RAM: L first, then H. -/
theorem exec_shld_ram {s : State} {aa : Word} (h0 : s.kindAt aa = .ram) (h1 : s.kindAt (aa + 1#16) = .ram) :
    exec (.shld aa) s = .next { s with mem := (s.mem.write aa.toNat s.l).write (aa + 1#16).toNat s.h } := by
  show Host.Outcome.next ((s.memWrite aa s.l).memWrite (aa + 1#16) s.h) = _
  rw [State.memWrite_ram (x := aa + 1#16) (by simpa using h1), State.memWrite_ram h0]

/-- LHLD from RAM or ROM: HL is the word there. -/
theorem exec_lhld_memory {s : State} {aa : Word} (h0 : s.kindAt aa ≠ .device) (h1 : s.kindAt (aa + 1#16) ≠ .device) :
    exec (.lhld aa) s = .next { s with l := s.peek aa, h := s.peek (aa + 1#16) } := by
  simp [exec, execLhld, State.memRead_memory h0, State.memRead_memory h1, State.peek]

/-- XTHL with the stack in RAM: HL and the word at SP change places. -/
theorem exec_xthl_ram {s : State} (h0 : s.kindAt s.sp = .ram) (h1 : s.kindAt (s.sp + 1#16) = .ram) :
    exec .xthl s = .next { s with
      mem := (s.mem.write (s.sp + 1#16).toNat s.h).write s.sp.toNat s.l
      h := s.peek (s.sp + 1#16), l := s.peek s.sp } := by
  have hd0 : s.kindAt s.sp ≠ .device := by simp [h0]
  have hd1 : s.kindAt (s.sp + 1#16) ≠ .device := by simp [h1]
  simp only [exec, execXthl, State.memRead_memory hd0, State.memRead_memory hd1]
  rw [State.memWrite_ram (x := s.sp) (by simpa using h0), State.memWrite_ram h1]
  rfl

/-- Settles O27: the two addresses differ, also where `aa + 1` wraps, so that each byte is read back. -/
theorem lhldReadsWhatShldStored : Obligations.LhldReadsWhatShldStored := by
  intro s aa x y hm h0 h1
  obtain ⟨lo, hi⟩ := Memory.read_write_write hm (pop_addresses_ne aa).symm s.l s.h
  have hd0 : s.kindAt aa ≠ .device := by simp [h0]
  have hd1 : s.kindAt (aa + 1#16) ≠ .device := by simp [h1]
  exact ⟨_, _, exec_shld_ram h0 h1, exec_lhld_memory hd0 hd1, hi, lo, lo, hi⟩

/-- Settles O52: the second exchange finds the old HL in memory and writes the old word back where it was. -/
theorem xthlTwiceRestores : Obligations.XthlTwiceRestores := by
  intro s hm h0 h1
  have hm1 := Memory.wf_write hm (s.sp + 1#16).isLt s.h
  have hm2 := Memory.wf_write hm1 s.sp.isLt s.l
  obtain ⟨hi, lo⟩ := Memory.read_write_write hm (pop_addresses_ne s.sp) s.h s.l
  refine ⟨_, _, exec_xthl_ram h0 h1, rfl, rfl, exec_xthl_ram h0 h1, ?_, fun x => ?_⟩
  · simp only [State.peek, lo, hi]
  · simp only [State.peek]
    rw [Memory.read_write (Memory.wf_write hm2 (s.sp + 1#16).isLt _), Memory.read_write hm2, Memory.read_write hm1,
      Memory.read_write hm]
    by_cases hx0 : x = s.sp
    · simp [hx0]
    · by_cases hx1 : x = s.sp + 1#16 <;> simp [hx0, hx1]

/-! ### IN and the parameters at reset (R58, R94, R245, R261) -/

/-- Settles O54: the byte drawn is the next one scheduled, or else a free value. -/
theorem inputReadsADraw : Obligations.InputReadsADraw := by
  intro s p
  refine ⟨fun v rest he => ?_, fun he => ?_, rfl⟩
  · simp [exec, execIn, State.ioRead, State.draw_scheduled he]
  · simp [exec, execIn, State.ioRead, State.draw_free he]

/-- Settles O60: the parameters of the reset state, the empty memory map, and the two opcodes under `refuse`. -/
theorem resetTakesTheDecidedParameters : Obligations.ResetTakesTheDecidedParameters :=
  ⟨rfl, rfl, rfl, rfl, rfl, fun _ => rfl, exec_refused rfl _ _ rfl, exec_refused rfl _ _ rfl⟩

end Sys2Proof.Machine

/-! ## The decoder and the encoder (R80 to R94) -/

namespace Sys2Proof.Machine

/-! ### Field codes and the fields of byte 1 (R82, R84, R85) -/

@[simp] theorem opdOfCode_regCode (r : Reg) : opdOfCode r.code = .reg r := by
  cases r <;> rfl

@[simp] theorem opdOfCode_code (o : Opd) : opdOfCode o.code = o := by
  cases o with
  | reg r => exact opdOfCode_regCode r
  | m => rfl

/-- R82: of byte 1 the field `q` chooses the quadrant, and `y` and `z` the place in it. -/
theorem decodeBytes_opcode233 (q : BitVec 2) (y z : BitVec 3) (b2 b3 : Byte) :
    decodeBytes (opcode233 q y z) b2 b3 =
      select4 q (decodeQuadrant0 z y (y.extractLsb' 1 2) b2 (joinBytes b3 b2)) (decodeQuadrant1 z y)
        (decodeQuadrant2 z y) (decodeQuadrant3 z y b2 (joinBytes b3 b2)) := by
  have hq : (opcode233 q y z).extractLsb' 6 2 = q := by revert q y z; decide
  have hy : (opcode233 q y z).extractLsb' 3 3 = y := by revert q y z; decide
  have hz : (opcode233 q y z).extractLsb' 0 3 = z := by revert q y z; decide
  have hp : (opcode233 q y z).extractLsb' 4 2 = y.extractLsb' 1 2 := by revert q y z; decide
  rw [decodeBytes, hq, hy, hz, hp]

theorem decodeBytes_mviR (dst : Reg) (b2 b3 : Byte) :
    decodeBytes (opcode233 0b00#2 dst.code 0b110#3) b2 b3 = .mviR dst b2 := by
  simp [decodeBytes_opcode233, select4, decodeQuadrant0, select8]

theorem decodeBytes_lxi (rp : Pair) (b2 b3 : Byte) :
    decodeBytes (opcode224 0b00#2 rp.code 0b0001#4) b2 b3 = .lxi rp (joinBytes b3 b2) := by
  cases rp <;> rfl

/-! ### One instruction: its bytes, and the instruction they are (R80, R81, R88, R91) -/

/-- The instruction that one, two or three bytes are. -/
def instrOfBytes (bytes : List Byte) : Instr :=
  decodeBytes (bytes.headD 0#8) (bytes.getD 1 0#8) (bytes.getD 2 0#8)

@[simp] theorem instrOfBytes_one (op : Byte) : instrOfBytes [op] = decodeBytes op 0#8 0#8 := rfl

@[simp] theorem instrOfBytes_two (op b2 : Byte) : instrOfBytes [op, b2] = decodeBytes op b2 0#8 := rfl

@[simp] theorem instrOfBytes_three (op b2 b3 : Byte) : instrOfBytes [op, b2, b3] = decodeBytes op b2 b3 := rfl

/-- R57, R88: the low-order byte of a 16-bit operand comes first. -/
@[simp] theorem withWord_joinBytes (op b2 b3 : Byte) : withWord op (joinBytes b3 b2) = [op, b2, b3] := by
  simp [withWord]

theorem exists_joinBytes (w : Word) : ∃ b2 b3, w = joinBytes b3 b2 :=
  ⟨loByte w, hiByte w, (joinBytes_hiByte_loByte w).symm⟩

/-- Every operand of a well-formed instruction is read back from the bytes of its encoding: a register, M or a pair from
its code in byte 1, an immediate or an address from the bytes after it. -/
theorem instrOfBytes_encode {i : Instr} (hi : i.wf = true) : instrOfBytes (encode i) = i := by
  cases i with
  | movRR dst src => simp [encode, decodeBytes_opcode233, select4, decodeQuadrant1]
  | movRM r | movMR r => cases r <;> rfl
  | add o | adc o | sub o | sbb o | ana o | xra o | ora o | cmp o =>
    simp [encode, decodeBytes_opcode233, select4, decodeQuadrant2, select8]
  | inr o | dcr o => simp [encode, decodeBytes_opcode233, select4, decodeQuadrant0, select8]
  | rst n => simp [encode, decodeBytes_opcode233, select4, decodeQuadrant3, select8]
  | inx rp | dcx rp | dad rp => cases rp <;> rfl
  | ldax rp | stax rp =>
    cases rp with
    | bc | de => rfl
    | hl | sp => nomatch hi
  | push rp | pop rp =>
    cases rp with
    | bc | de | hl => rfl
    | sp => nomatch hi
  | mviR dst n => exact decodeBytes_mviR dst n 0#8
  | mviM _ | adi _ | aci _ | sui _ | sbi _ | ani _ | xri _ | ori _ | cpi _ | inPort _ | outPort _ =>
    rw [encode, instrOfBytes_two]
    rfl
  | lxi rp nn =>
    obtain ⟨b2, b3, rfl⟩ := exists_joinBytes nn
    rw [encode, withWord_joinBytes]
    exact decodeBytes_lxi rp b2 b3
  | lda w | sta w | lhld w | shld w | jmp w | jnz w | jz w | jnc w | jc w | jpo w | jpe w | jp w | jm w | call w
  | cnz w | cz w | cnc w | cc w | cpo w | cpe w | cp w | cm w | undocCB w | undocDD w | undocED w | undocFD w =>
    obtain ⟨b2, b3, rfl⟩ := exists_joinBytes w
    rw [encode, withWord_joinBytes, instrOfBytes_three]
    rfl
  | _ => rfl

/-- An encoding is as long as its byte 1 says (R83). -/
theorem length_encode {i : Instr} (hi : i.wf = true) : (encode i).length = opcodeLength ((encode i).headD 0#8) := by
  have h := length_decodeBytes ((encode i).getD 1 0#8) ((encode i).getD 2 0#8) ((encode i).headD 0#8)
  rwa [show decodeBytes _ _ _ = i from instrOfBytes_encode hi] at h

/-- No byte 1 decodes to a term that no encoding stands for (R120, R227), whatever the operand bytes. -/
theorem wf_decodeBytes (b2 b3 : Byte) : ∀ op : Byte, (decodeBytes op b2 b3).wf = true :=
  of_decide_eq_true rfl

/-- No bit of the bytes is lost in the instruction they are: byte 1 and the length are in its encoding already, and
where there are operand bytes, the encoding has those too. -/
theorem encode_of_decodeBytes_eq {op b2 b3 : Byte} {i : Instr} (h : decodeBytes op b2 b3 = i) :
    encode i = [op, b2, b3].take (opcodeLength op) := by
  rw [← length_decodeBytes b2 b3, h]
  have hop := opcode_of_decodeBytes_eq h
  cases i with
  | mviR dst _ =>
    subst hop
    exact congrArg encode (h.symm.trans (decodeBytes_mviR dst b2 b3))
  | mviM _ | adi _ | aci _ | sui _ | sbi _ | ani _ | xri _ | ori _ | cpi _ | inPort _ | outPort _ =>
    simp only [encode, List.headD_cons] at hop
    subst hop
    exact congrArg encode h.symm
  | lxi rp _ =>
    subst hop
    exact (congrArg encode (h.symm.trans (decodeBytes_lxi rp b2 b3))).trans (withWord_joinBytes _ b2 b3)
  | lda _ | sta _ | lhld _ | shld _ | jmp _ | jnz _ | jz _ | jnc _ | jc _ | jpo _ | jpe _ | jp _ | jm _ | call _
  | cnz _ | cz _ | cnc _ | cc _ | cpo _ | cpe _ | cp _ | cm _ | undocCB _ | undocDD _ | undocED _ | undocFD _ =>
    simp only [encode, withWord, List.headD_cons] at hop
    subst hop
    exact (congrArg encode h.symm).trans (withWord_joinBytes _ b2 b3)
  | _ =>
    subst hop
    rfl

/-- Bytes as many as byte 1 says are one, two or three (R80). -/
theorem bytes_cases {bytes : List Byte} (h : bytes.length = opcodeLength (bytes.headD 0#8)) :
    (∃ op, bytes = [op] ∧ opcodeLength op = 1) ∨ (∃ op b2, bytes = [op, b2] ∧ opcodeLength op = 2) ∨
      ∃ op b2 b3, bytes = [op, b2, b3] ∧ opcodeLength op = 3 := by
  match bytes, h with
  | [], h => rcases opcodeLength_cases 0#8 with e | e | e <;> simp [e] at h
  | [op], h => exact .inl ⟨op, rfl, h.symm⟩
  | [op, b2], h => exact .inr (.inl ⟨op, b2, rfl, h.symm⟩)
  | [op, b2, b3], h => exact .inr (.inr ⟨op, b2, b3, rfl, h.symm⟩)
  | op :: _ :: _ :: _ :: _, h => rcases opcodeLength_cases op with e | e | e <;> simp [e] at h

theorem encode_instrOfBytes {bytes : List Byte} (h : bytes.length = opcodeLength (bytes.headD 0#8)) :
    encode (instrOfBytes bytes) = bytes := by
  rcases bytes_cases h with ⟨_, rfl, hl⟩ | ⟨_, _, rfl, hl⟩ | ⟨_, _, _, rfl, hl⟩ <;>
    simp [encode_of_decodeBytes_eq rfl, hl]

/-! ### The decoder on a sequence of bytes (R80, R83, R93) -/

/-- The decoder takes the bytes of one instruction and leaves those after it. -/
theorem decode_append {bytes : List Byte} (h : bytes.length = opcodeLength (bytes.headD 0#8)) (rest : List Byte) :
    decode (bytes ++ rest) = .ok (instrOfBytes bytes, rest) := by
  rcases bytes_cases h with ⟨_, rfl, hl⟩ | ⟨_, _, rfl, hl⟩ | ⟨_, _, _, rfl, hl⟩ <;> simp [decode, hl]

/-- Where the decoder answers, it has taken as many bytes as byte 1 says, and the instruction is what they are. -/
theorem decode_eq_ok {all rest : List Byte} {i : Instr} (h : decode all = .ok (i, rest)) :
    ∃ bytes, all = bytes ++ rest ∧ bytes.length = opcodeLength (bytes.headD 0#8) ∧ instrOfBytes bytes = i := by
  have taken {bytes rest' : List Byte} (ha : all = bytes ++ rest')
      (hl : bytes.length = opcodeLength (bytes.headD 0#8)) :
      ∃ bytes, all = bytes ++ rest ∧ bytes.length = opcodeLength (bytes.headD 0#8) ∧ instrOfBytes bytes = i := by
    rw [ha, decode_append hl] at h
    obtain ⟨hi, rfl⟩ := Prod.mk.inj (Except.ok.inj h)
    exact ⟨bytes, ha, hl, hi⟩
  match all with
  | [] => nomatch h
  | op :: tail =>
    rcases opcodeLength_cases op with hl | hl | hl
    · exact taken (bytes := [op]) rfl hl.symm
    · match tail with
      | [] => simp [decode, hl] at h
      | b2 :: _ => exact taken (bytes := [op, b2]) rfl hl.symm
    · match tail with
      | [] | [_] => simp [decode, hl] at h
      | b2 :: b3 :: _ => exact taken (bytes := [op, b2, b3]) rfl hl.symm

/-- R83's patterns and its lists of opcodes give the same lengths. -/
theorem opcodeLength_eq : ∀ op : Byte, opcodeLength op =
    if op ∈ threeByteOpcodes ∨ op ∈ threeByteUndocumented then 3 else if op ∈ twoByteOpcodes then 2 else 1 := by
  decide

/-- Settles O1: the decoder takes the whole encoding, and its bytes are the instruction. -/
theorem decodeInvertsEncode : Obligations.DecodeInvertsEncode := by
  intro i rest hi
  rw [decode_append (length_encode hi), instrOfBytes_encode hi]

/-- Settles O2: the bytes taken are the encoding of the instruction they are. -/
theorem encodeInvertsDecode : Obligations.EncodeInvertsDecode := by
  intro all rest i h
  obtain ⟨bytes, rfl, hl, rfl⟩ := decode_eq_ok h
  exact ⟨wf_decodeBytes _ _ _, by rw [encode_instrOfBytes hl]⟩

/-- Settles O3: three bytes are enough for every byte 1, and those it does not need are left. -/
theorem everyOpcodeDecodes : Obligations.EveryOpcodeDecodes := by
  intro op b2 b3 rest
  have hl := opcodeLength_eq op
  by_cases h3 : op ∈ threeByteOpcodes ∨ op ∈ threeByteUndocumented
  · rw [if_pos h3] at hl ⊢
    exact ⟨_, decode_append (bytes := [op, b2, b3]) hl.symm rest⟩
  · by_cases h2 : op ∈ twoByteOpcodes
    · rw [if_neg h3, if_pos h2] at hl ⊢
      exact ⟨_, decode_append (bytes := [op, b2]) hl.symm (b3 :: rest)⟩
    · rw [if_neg h3, if_neg h2] at hl ⊢
      exact ⟨_, decode_append (bytes := [op]) hl.symm (b2 :: b3 :: rest)⟩

/-- Settles O4, word by word. -/
theorem writtenWordsDecode : Obligations.WrittenWordsDecode := by
  unfold Obligations.WrittenWordsDecode
  decide

/-! ### Where a step stops (R94, R270, R271, R278) -/

/-- Every instruction completes, but an undocumented value does what R94 says of it. -/
theorem exec_cases (i : Instr) (s : State) :
    (∃ t, exec i s = .next t) ∨
      ∃ op ∈ undocumentedValues, (encode i).head? = some op ∧ ∃ silicon, exec i s = undocumented op silicon s := by
  cases i with
  | undoc08 | undoc10 | undoc18 | undoc20 | undoc28 | undoc30 | undoc38 | undocCB _ | undocD9 | undocDD _ | undocED _
  | undocFD _ =>
    refine .inr ⟨_, ?_, rfl, _, rfl⟩
    decide
  | _ => exact .inl ⟨_, rfl⟩

theorem undocumented_of_asSilicon {s : State} (h : s.params.undocOpcodes = .asSilicon) (op : Byte) (silicon : State) :
    undocumented op silicon s = .next silicon := by
  rw [undocumented, h]

theorem undocumented_of_refuse {s : State} (h : s.params.undocOpcodes = .refuse) (op : Byte) (silicon : State) :
    undocumented op silicon s = .refused (.undocumentedOpcode op s) := by
  rw [undocumented, h]

/-- An instruction is refused only as one of the twelve values, and only under `refuse` (R94). -/
theorem exec_eq_refused {i : Instr} {s : State} {r : Refusal} (h : exec i s = .refused r) :
    ∃ op ∈ undocumentedValues, ∃ u, r = .undocumentedOpcode op u ∧ s.params.undocOpcodes = .refuse := by
  rcases exec_cases i s with ⟨t, e⟩ | ⟨op, hop, -, silicon, e⟩
  · nomatch e.symm.trans h
  · rcases undocumented_cases op silicon s with ⟨hm, e'⟩ | ⟨-, e'⟩
    · cases (e.trans e').symm.trans h
      exact ⟨op, hop, s, rfl, hm⟩
    · nomatch (e.trans e').symm.trans h

/-- An acceptable interrupt is taken, or its instruction is executed, or its byte is refused (R276, R278). -/
theorem acceptInterrupt_cases (k : StepInputs) (s : State) :
    (∃ t, acceptInterrupt k s = .next t) ∨ (∃ i, acceptInterrupt k s = exec i s.acknowledge) ∨
      (acceptInterrupt k s = .refused (.unsupportedInjectedInstruction k.intInstr s.acknowledge) ∧
        isRst k.intInstr = false ∧ s.params.intInjected = .rstOnly) := by
  unfold acceptInterrupt
  cases isRst k.intInstr with
  | true => exact .inl ⟨_, rfl⟩
  | false =>
    cases s.params.intInjected with
    | rstOnly => exact .inr (.inr ⟨rfl, rfl, rfl⟩)
    | any => exact .inr (.inl ⟨_, rfl⟩)

/-- A step completes, or executes an instruction under the parameters as they are, or refuses the byte an interrupting
device supplies (R97, R278). -/
theorem step_cases (s : State) :
    (∃ t, step s = .next t) ∨ (∃ i u, u.params = s.params ∧ step s = exec i u) ∨
      ∃ u, step s = .refused (.unsupportedInjectedInstruction s.currentInputs.intInstr u) ∧
        isRst s.currentInputs.intInstr = false ∧ s.params.intInjected = .rstOnly ∧
        s.accepts s.currentInputs = true := by
  cases hr : s.currentInputs.reset with
  | true => exact .inl ⟨_, step_of_reset hr⟩
  | false =>
    cases ha : s.accepts s.currentInputs with
    | true =>
      rw [step_of_accepts hr ha]
      rcases acceptInterrupt_cases s.currentInputs s.consumeInputs with h | ⟨i, h⟩ | ⟨h, hb, hm⟩
      · exact .inl h
      · exact .inr (.inl ⟨i, s.consumeInputs.acknowledge, rfl, h⟩)
      · exact .inr (.inr ⟨_, h, hb, hm, rfl⟩)
    | false =>
      cases hh : s.halted with
      | true => exact .inl ⟨_, step_of_halted hr ha hh⟩
      | false =>
        refine .inr (.inl ⟨_, _, ?_, step_of_running hr ha hh⟩)
        rw [State.fetchInstr_only]
        rfl

/-- Settles O14: the refusal is an executed instruction's, or that of the byte supplied. -/
theorem stepRefusesOnlyWhereTheSpecDoes : Obligations.StepRefusesOnlyWhereTheSpecDoes := by
  intro s r h
  rcases step_cases s with ⟨t, e⟩ | ⟨i, u, hu, e⟩ | ⟨u, e, hb, hm, ha⟩
  · nomatch e.symm.trans h
  · exact .inl (hu ▸ exec_eq_refused (e.symm.trans h))
  · cases e.symm.trans h
    simp only [State.accepts, Bool.and_eq_true, Bool.not_eq_true'] at ha
    obtain ⟨⟨hi, hd⟩, hint⟩ := ha
    exact .inr ⟨_, u, rfl, of_decide_eq_false hb, hm, hi, hd, hint⟩

/-- Settles O15: there is no fault to stop with, and of the twelve values alone an instruction may not complete. -/
theorem nothingFaultsAndEveryInstructionCompletes : Obligations.NothingFaultsAndEveryInstructionCompletes := by
  refine ⟨fun _ => nofun, fun i s hm => ?_, fun i s hne => ?_⟩
  · rcases exec_cases i s with h | ⟨op, -, -, silicon, e⟩
    · exact h
    · exact ⟨silicon, e.trans (undocumented_of_asSilicon hm op silicon)⟩
  · rcases exec_cases i s with h | ⟨op, hop, hi, -⟩
    · exact h
    · exact absurd hi (hne op hop)

/-! ### The twelve undocumented values (R94) -/

theorem pushesWord_push16 {s : State} (hw : s.mem.wf = true) (v : Word) : PushesWord s (s.push16 v) v :=
  ⟨_, _, storesByte_memWrite hw _ _, storesByte_memWrite (State.memWrite_wf hw _ _) _ _, rfl⟩

theorem calls_callTo {s : State} (hw : s.mem.wf = true) (target : Word) : Calls s (s.callTo target) target :=
  ⟨_, pushesWord_push16 hw s.pc, rfl⟩

theorem returns_returnFromCall (s : State) : Returns s s.returnFromCall := rfl

/-- Settles O57: each value takes its step on silicon, which is that of NOP, JMP, RET or CALL. -/
theorem undocumentedActAsOnSilicon : Obligations.UndocumentedActAsOnSilicon := by
  intro s aa hw hm
  have silicon (op : Byte) (t : State) := undocumented_of_asSilicon hm op t
  have call := calls_callTo hw aa
  exact ⟨silicon _ s, silicon _ s, silicon _ s, silicon _ s, silicon _ s, silicon _ s, silicon _ s, silicon _ _,
    ⟨_, silicon _ _, returns_returnFromCall s⟩, ⟨_, silicon _ _, call⟩, ⟨_, silicon _ _, call⟩,
    ⟨_, silicon _ _, call⟩⟩

/-- Settles O58: under `refuse` what a value does on silicon makes no difference. -/
theorem undocumentedAreRefused : Obligations.UndocumentedAreRefused := by
  intro s aa hm
  have refused (op : Byte) (t : State) := undocumented_of_refuse hm op t
  exact ⟨refused _ s, refused _ s, refused _ s, refused _ s, refused _ s, refused _ s, refused _ s, refused _ _,
    refused _ _, refused _ _, refused _ _, refused _ _⟩

/-- Settles O59: byte 1 alone of the value is fetched, and the instruction it decodes to is refused. -/
theorem refusedOpcodeLeavesPcPastByteOne : Obligations.RefusedOpcodeLeavesPcPastByteOne := by
  rintro s _ hop hm hr ha hh hk rfl
  have hu : isUndocumented (s.peek s.pc) = true := decide_eq_true hop
  obtain ⟨rest, hd⟩ := decode_three (s.peek s.pc) (s.peek (s.pc + 1#16)) (s.peek (s.pc + 2#16))
  obtain ⟨-, hs⟩ := stepRunsTheDecodedInstruction s _ rest hr ha hh
  have hn (b2 b3 : Byte) : (decodeBytes (s.peek s.pc) b2 b3).fetched s.params.undocOpcodes = 1 := by
    rw [fetched_decodeBytes, fetchLength_eq, if_pos ⟨hm, hu⟩]
  have byteOne : ∀ k, k < 1 → s.readable (s.pc + BitVec.ofNat 16 k) := fun k hk1 => by
    obtain rfl : k = 0 := by omega
    simpa using hk
  rw [hs (by rwa [hn]) hd, hn]
  exact exec_refused hu _ _ hm

end Sys2Proof.Machine

/-! ## The transfers (R110 to R123) -/

namespace Sys2Proof.Machine

/-! ### What a write to a register or to a pair amounts to (R20, R21, R23) -/

theorem setsReg_setReg (s : State) (q : Reg) (v : Byte) : SetsReg s (s.setReg q v) q v :=
  ⟨s.setReg_getReg_self q v, fun _ hq => s.setReg_getReg_ne v hq, s.setReg_only q v⟩

/-- A pair reads back as the word written to it: its two registers took the word's two bytes. -/
@[simp] theorem State.setPair_getPair_self (s : State) (q : Pair) (v : Word) : (s.setPair q v).getPair q = v := by
  cases q with
  | bc | de | hl => exact joinBytes_hiByte_loByte v
  | sp => rfl

theorem setsPair_setPair (s : State) (q : Pair) (v : Word) : SetsPair s (s.setPair q v) q v :=
  ⟨s.setPair_getPair_self q v, fun _ hq => s.setPair_getPair_ne v hq, s.setPair_only q v⟩

/-! ### The encodings, in the patterns of R81 and R88 -/

/-- R88: the low-order byte of the word first. -/
theorem withWord_eq (op : Byte) (w : Word) : withWord op w = [op, w.extractLsb' 0 8, w.extractLsb' 8 8] := rfl

/-- The slots of MOV M,r are those of 01110sss (R84, R112). -/
theorem encode_movMR (src : Reg) : encode (.movMR src) = [0b01110#5 ++ src.code] := by
  cases src <;> rfl

/-- The slot that MOV M,M would have is HLT (R112, R251). -/
theorem decodeBytes_hlt (b2 b3 : Byte) : decodeBytes 0x76#8 b2 b3 = .hlt := rfl

/-! ### The statements of the transfers -/

/-- Settles O30: each store is one `memWrite` at its address, SHLD two of them, L first. -/
theorem memoryStores : Obligations.MemoryStores := by
  intro s hm
  have store := storesByte_memWrite hm
  have storeAfter (aa : Word) := storesByte_memWrite (State.memWrite_wf hm aa s.l)
  exact ⟨fun src => ⟨_, rfl, store s.hl (s.getReg src)⟩, fun n => ⟨_, rfl, store s.hl n⟩,
    fun aa => ⟨_, rfl, store aa s.a⟩, ⟨_, rfl, store (s.getPair .bc) s.a⟩, ⟨_, rfl, store (s.getPair .de) s.a⟩,
    fun aa => ⟨_, _, rfl, store aa s.l, storeAfter aa (aa + 1#16) s.h⟩,
    encode_movMR, fun _ => rfl, decodeBytes_hlt, withWord_eq _, rfl, rfl, withWord_eq _⟩

/-- Settles O28: each transfer is one write to its register or pair; the source is read before it. -/
theorem registerTransfers : Obligations.RegisterTransfers := fun s =>
  ⟨fun dst src => ⟨_, rfl, setsReg_setReg s dst (s.getReg src)⟩, fun dst n => ⟨_, rfl, setsReg_setReg s dst n⟩,
    fun rp nn => ⟨_, rfl, setsPair_setPair s rp nn⟩, rfl, rfl,
    fun _ _ => rfl, fun _ _ => rfl, fun _ => withWord_eq _, rfl, rfl⟩

/-- Settles O29: each load is one `memRead` at its address, LHLD two of them, L first; the register is written in the
state that the read leaves. -/
theorem memoryLoads : Obligations.MemoryLoads := fun s =>
  ⟨fun dst => ⟨_, rfl, setsReg_setReg (s.memRead s.hl).2 dst (s.memRead s.hl).1⟩, fun _ => rfl, rfl, rfl,
    fun _ => ⟨_, rfl, rfl⟩, fun _ => rfl, withWord_eq _, rfl, rfl, withWord_eq _⟩

end Sys2Proof.Machine

/-! ## The arithmetic instructions (R130 to R148) -/

namespace Sys2Proof.Machine

/-! ### S, Z and P of a result (R28, R29) -/

/-- R28: the sum of the eight bits has the parity of the number of 1 bits. -/
theorem parity8_iff (v : Byte) : parity8 v = true ↔ onesIn v % 2 = 0 := by
  have ones : onesIn v = (v.getLsbD 7).toNat + (v.getLsbD 6).toNat + (v.getLsbD 5).toNat + (v.getLsbD 4).toNat
      + (v.getLsbD 3).toNat + (v.getLsbD 2).toNat + (v.getLsbD 1).toNat + (v.getLsbD 0).toNat := by
    simp only [onesIn, List.range_succ, List.range_zero, List.countP_append, List.countP_singleton, List.countP_nil,
      Bool.cond_eq_ite, Bool.toNat]
    omega
  rw [ones, parity8, decide_eq_true_iff]

theorem zspOf_setZSP (s : State) (v : Byte) : ZspOf (s.setZSP v) v :=
  ⟨decide_eq_true_iff.trans BitVec.toNat_inj.symm, sign_iff v, parity8_iff v⟩

/-! ### The three uses of the 8-bit sum and difference (R130, R131) -/

theorem addsToA_addToA (s : State) (v : Byte) (cin : Bool) : AddsToA s (s.addToA v cin) v cin := by
  obtain ⟨sum, aux⟩ := add8_spec s.a v cin
  exact ⟨rfl, sum, aux, zspOf_setZSP s _⟩

/-- R131: AC of a subtraction, from the parameter of the state it ends in. -/
theorem subtractAc_of_sub8 {t : State} {x v : Byte} {bin : Bool}
    (h : t.acf = (sub8 t.params.acOnSubtract x v bin).2.2) : SubtractAc t x v bin :=
  ⟨fun hm => by rw [h, sub8_auxCarry, hm], fun hm => by rw [h, sub8_auxCarry, hm]⟩

theorem subtractsFromA_subFromA (s : State) (v : Byte) (bin : Bool) : SubtractsFromA s (s.subFromA v bin) v bin := by
  obtain ⟨difference, borrow⟩ := sub8_spec s.params.acOnSubtract s.a v bin
  exact ⟨rfl, difference, borrow, subtractAc_of_sub8 rfl, zspOf_setZSP s _⟩

/-- R131: without a borrow in, the result is the difference modulo 256. -/
theorem sub8_value (mode : AcOnSubtract) (x v : Byte) : (sub8 mode x v false).1 = x - v := by
  obtain ⟨difference, -⟩ := sub8_spec mode x v false
  simp only [Bool.toNat_false] at difference
  bv_omega

theorem comparesA_compareA (s : State) (v : Byte) : ComparesA s (s.compareA v) v := by
  obtain ⟨-, borrow⟩ := sub8_spec s.params.acOnSubtract s.a v false
  have value := sub8_value s.params.acOnSubtract s.a v
  have zsp : ZspOf (s.compareA v) (s.a - v) := value ▸ zspOf_setZSP s _
  have equal : s.a - v = 0#8 ↔ s.a = v := sub_eq_zero
  exact ⟨rfl, borrow, decide_eq_true_iff.trans (value ▸ equal), subtractAc_of_sub8 rfl, zsp⟩

/-! ### INR and DCR (R142, R143) -/

/-- R142: the digit carries out exactly where it was 15. -/
theorem incAuxCarry_add_one (x : Byte) : incAuxCarry (x + 1#8) = true ↔ x.toNat % 16 = 15 := by
  rw [incAuxCarry, decide_eq_true_iff]
  bv_omega

/-- R131, R143: AC of DCR is AC of the subtraction of 1. -/
theorem decAuxCarry_sub_one (mode : AcOnSubtract) (x : Byte) :
    decAuxCarry mode (x - 1#8) = (sub8 mode x 1#8 false).2.2 := by
  rw [Bool.eq_iff_iff, sub8_auxCarry]
  cases mode with
  | carryOfComplementAdd | borrow =>
    simp only [decAuxCarry, decide_eq_true_iff, Bool.toNat_false]
    bv_omega

/-- R8, R22: the write back of INR and DCR, after the read: to the register, or to the byte at the HL of before. -/
def WritesBack (s t : State) (o : Opd) (v : Byte) : Prop :=
  match o with
  | .reg q => SetsReg (s.readOpd o).2 t q v
  | .m => StoresByte (s.readOpd o).2 t (s.h ++ s.l) v

theorem writesBack_writeOpd {s : State} (hm : s.mem.wf = true) (o : Opd) (v : Byte) :
    WritesBack s ((s.readOpd o).2.writeOpd o v) o v := by
  cases o with
  | reg q => exact setsReg_setReg s q v
  | m =>
    have same : (s.readOpd .m).2.hl = s.h ++ s.l := by simp [State.hl_eq_append]
    show StoresByte (s.readOpd .m).2 ((s.readOpd .m).2.memWrite (s.readOpd .m).2.hl v) (s.h ++ s.l) v
    rw [same]
    exact storesByte_memWrite (by simpa using hm) (s.h ++ s.l) v

/-! ### DAA (R147) -/

/-- R147: the rule's condition on the two digits is A > 99h. -/
theorem decimalAdjust_high_iff (x : Byte) (cy : Bool) :
    (cy || decide (x.toNat / 16 > 9) || (decide (x.toNat / 16 ≥ 9) && decide (x.toNat % 16 > 9))) = true ↔
      cy = true ∨ 0x99 < x.toNat := by
  cases cy with
  | true => simp
  | false =>
    simp only [Bool.false_or, Bool.or_eq_true, Bool.and_eq_true, decide_eq_true_iff, Bool.false_eq_true, false_or]
    omega

/-- R130: without a carry in, the result is the sum modulo 256. -/
theorem add8_value (x v : Byte) : (add8 x v false).1 = x + v := by
  simp [add8, BitVec.ofNat_add]

/-- R147: the two corrections share no bit, so that their disjunction is their sum. -/
theorem corrections_or_eq_add (low high : Prop) [Decidable low] [Decidable high] :
    (if low then 0x06#8 else 0x00#8) ||| (if high then 0x60#8 else 0x00#8) =
      (if low then 0x06#8 else 0x00#8) + (if high then 0x60#8 else 0x00#8) := by
  split <;> split <;> rfl

/-- R147: the high correction leaves the low digit alone. -/
theorem corrections_lowDigit (low high : Prop) [Decidable low] [Decidable high] :
    ((if low then 0x06#8 else 0x00#8) + (if high then 0x60#8 else 0x00#8)).toNat % 16 = if low then 6 else 0 := by
  split <;> split <;> rfl

/-- R147 in numbers: AC comes of the low digit alone, since a digit up to 9 plus 6 stays below 16. -/
theorem decimalAdjust_spec (x : Byte) (ac cy : Bool) :
    (decimalAdjust x ac cy).1 = x + (if ac = true ∨ 9 < x.toNat % 16 then 0x06#8 else 0x00#8)
        + (if cy = true ∨ 0x99 < x.toNat then 0x60#8 else 0x00#8) ∧
      ((decimalAdjust x ac cy).2.1 = true ↔ cy = true ∨ 0x99 < x.toNat) ∧
      ((decimalAdjust x ac cy).2.2 = true ↔ 10 ≤ x.toNat % 16) := by
  have low : (ac || decide (x.toNat % 16 > 9)) = true ↔ ac = true ∨ 9 < x.toNat % 16 := by simp
  have high := decimalAdjust_high_iff x cy
  simp only [decimalAdjust, corrections_or_eq_add, add8_value, low, high]
  refine ⟨(BitVec.add_assoc ..).symm, ?_, ?_⟩
  · split
    next h => exact iff_of_true rfl h
    next h => exact iff_of_false (mt .inl h) h
  · rw [(add8_spec ..).2, corrections_lowDigit]
    split <;> simp only [Bool.toNat_false] <;> omega

/-! ### Decimal addition (R148) -/

/-- R148: the two digits of a packed byte. -/
theorem toNat_packedBcd {x : Nat} (hx : x < 100) : (packedBcd x).toNat = 16 * (x / 10) + x % 10 := by
  rw [packedBcd, BitVec.toNat_ofNat]
  omega

theorem packedBcd_lowDigit {x : Nat} (hx : x < 100) : (packedBcd x).toNat % 16 = x % 10 := by
  rw [toNat_packedBcd hx]
  omega

/-- R148: with `n` the sum of the tens and `u` that of the units and the carry in, the low digit of the binary sum `b`
carries out or exceeds 9 exactly where the units reach 10. -/
theorem unitsCarry_iff {n u b c : Nat} (hu : u < 20) (sum : b + 256 * c = 16 * n + u) :
    16 ≤ u ∨ 9 < b % 16 ↔ 10 ≤ u := by
  omega

/-- R148: with `n`, `u` and `b` as above, the binary sum carries out or exceeds 99h exactly where the decimal sum
reaches 100. -/
theorem decimalCarry_iff {n u b c : Nat} (hu : u < 20) (hb : b < 256) (sum : b + 256 * c = 16 * n + u) (hc : c < 2) :
    c = 1 ∨ 0x99 < b ↔ 100 ≤ 10 * n + u := by
  omega

/-- R148: with `n` and `u` as above, adding 6 for each decimal carry, to the units and to the tens, packs the decimal
sum. -/
theorem decimalSum_eq {n u : Nat} (hn : n < 19) (hu : u < 20) :
    (16 * n + u + (if 10 ≤ u then 0x06 else 0x00) + (if 100 ≤ 10 * n + u then 0x60 else 0x00)) % 256 =
      16 * ((10 * n + u) % 100 / 10) + (10 * n + u) % 100 % 10 := by
  rw [show (10 * n + u) % 100 / 10 = (n + u / 10) % 10 by omega, show (10 * n + u) % 100 % 10 = u % 10 by omega]
  split <;> split <;> omega

/-- R147, R148: DAA after the addition of two packed bytes. Its low correction applies where the low digits sum to
10 or more, its high one where the whole sum reaches 100. -/
theorem decimalAdjust_add8 {x y : Nat} (hx : x < 100) (hy : y < 100) (k : Bool) :
    let r := add8 (packedBcd x) (packedBcd y) k
    (decimalAdjust r.1 r.2.2 r.2.1).1 = packedBcd ((x + y + k.toNat) % 100) ∧
      ((decimalAdjust r.1 r.2.2 r.2.1).2.1 = true ↔ 100 ≤ x + y + k.toNat) := by
  intro r
  obtain ⟨sum, aux⟩ : r.1.toNat + 256 * r.2.1.toNat = _ ∧ (r.2.2 = true ↔ _) := add8_spec ..
  obtain ⟨value, carry, -⟩ := decimalAdjust_spec r.1 r.2.2 r.2.1
  rw [packedBcd_lowDigit hx, packedBcd_lowDigit hy] at aux
  have digits : r.1.toNat + 256 * r.2.1.toNat = 16 * (x / 10 + y / 10) + (x % 10 + y % 10 + k.toNat) := by
    rw [sum, toNat_packedBcd hx, toNat_packedBcd hy]
    omega
  have total : 10 * (x / 10 + y / 10) + (x % 10 + y % 10 + k.toNat) = x + y + k.toNat := by omega
  have hu : x % 10 + y % 10 + k.toNat < 20 := by have := k.toNat_lt; omega
  have low : r.2.2 = true ∨ 9 < r.1.toNat % 16 ↔ 10 ≤ x % 10 + y % 10 + k.toNat := by
    rw [aux, unitsCarry_iff hu digits]
  have high : r.2.1 = true ∨ 0x99 < r.1.toNat ↔ 100 ≤ x + y + k.toNat := by
    rw [← Bool.toNat_eq_one, decimalCarry_iff hu r.1.isLt digits r.2.1.toNat_lt, total]
  refine ⟨?_, carry.trans high⟩
  apply BitVec.eq_of_toNat_eq
  rw [value, toNat_packedBcd (Nat.mod_lt _ (by decide)), ← total, ← decimalSum_eq (by omega) hu, ← digits]
  simp only [BitVec.toNat_add, apply_ite BitVec.toNat, BitVec.reduceToNat, low, high, total]
  omega

/-! ### The statements of the arithmetic -/

/-- Settles O31: the four additions are `addToA`, with the operand read before it. -/
theorem additionResults : Obligations.AdditionResults := fun s =>
  have opd (o : Opd) := addsToA_addToA (s.readOpd o).2 (s.readOpd o).1
  ⟨fun o => ⟨_, rfl, opd o false⟩, fun n => ⟨_, rfl, addsToA_addToA s n false⟩,
    fun o => ⟨_, rfl, opd o s.cyf⟩, fun n => ⟨_, rfl, addsToA_addToA s n s.cyf⟩,
    fun _ => rfl, fun _ => rfl, fun _ => rfl, fun _ => rfl⟩

/-- Settles O32: the four subtractions are `subFromA`, with the operand read before it. -/
theorem subtractionResults : Obligations.SubtractionResults := fun s =>
  have opd (o : Opd) := subtractsFromA_subFromA (s.readOpd o).2 (s.readOpd o).1
  ⟨fun o => ⟨_, rfl, opd o false⟩, fun n => ⟨_, rfl, subtractsFromA_subFromA s n false⟩,
    fun o => ⟨_, rfl, opd o s.cyf⟩, fun n => ⟨_, rfl, subtractsFromA_subFromA s n s.cyf⟩,
    fun _ => rfl, fun _ => rfl, fun _ => rfl, fun _ => rfl⟩

/-- Settles O33: both compares are `compareA`. -/
theorem compareResults : Obligations.CompareResults := fun s =>
  ⟨fun o => ⟨_, rfl, comparesA_compareA (s.readOpd o).2 (s.readOpd o).1⟩,
    fun n => ⟨_, rfl, comparesA_compareA s n⟩, fun _ => rfl, fun _ => rfl⟩

/-- Settles O35: the write back keeps CY and the parameters, and the flags are written after it. -/
theorem incrementDecrementResults : Obligations.IncrementDecrementResults := by
  intro s o hm
  have carry (v : Byte) : ((s.readOpd o).2.writeOpd o v).cyf = s.cyf := by simp
  have params (v : Byte) : ((s.readOpd o).2.writeOpd o v).params = s.params := by simp
  have zsp (v : Byte) := zspOf_setZSP ((s.readOpd o).2.writeOpd o v) v
  have written (v : Byte) := writesBack_writeOpd hm o v
  refine ⟨⟨_, (s.readOpd o).2.writeOpd o _, rfl, ?_, rfl, carry _, zsp _, incAuxCarry_add_one _⟩,
    ⟨_, (s.readOpd o).2.writeOpd o _, rfl, ?_, rfl, carry _, zsp _, subtractAc_of_sub8 ?_⟩, rfl, rfl⟩
  · cases o <;> exact written _
  · cases o <;> exact written _
  · rw [← decAuxCarry_sub_one]
    exact congrArg (decAuxCarry ·.acOnSubtract _) (params _).symm

/-- Settles O36: INX and DCX are one write to the pair; DAD writes the 16-bit sum to HL and its carry to CY. -/
theorem pairArithmeticResults : Obligations.PairArithmeticResults := fun s rp =>
  have sum : (joinBytes (hiByte (add16 s.hl (s.getPair rp)).1) (loByte (add16 s.hl (s.getPair rp)).1)).toNat
      + 65536 * (add16 s.hl (s.getPair rp)).2.toNat = s.hl.toNat + (s.getPair rp).toNat := by
    rw [joinBytes_hiByte_loByte, add16_spec]
  ⟨⟨_, rfl, setsPair_setPair s rp _⟩, ⟨_, rfl, setsPair_setPair s rp _⟩, ⟨_, rfl, rfl, sum⟩, rfl, rfl, rfl⟩

/-- Settles O37, by the correction in numbers. -/
theorem decimalAdjustResult : Obligations.DecimalAdjustResult := fun s =>
  have ⟨value, carry, aux⟩ := decimalAdjust_spec s.a s.acf s.cyf
  ⟨_, rfl, rfl, value, carry, aux, zspOf_setZSP s _, rfl⟩

/-- Settles O38: DAA corrects the sum that ACI leaves, from the carries that ACI leaves. -/
theorem decimalAdditionIsCorrect : Obligations.DecimalAdditionIsCorrect := by
  intro s x y hx hy ha
  obtain ⟨value, carry⟩ := decimalAdjust_add8 hx hy s.cyf
  rw [← ha] at value carry
  exact ⟨_, _, rfl, rfl, value, carry⟩

end Sys2Proof.Machine

/-! ## The logical instructions (R160 to R166) -/

namespace Sys2Proof.Machine

/-! ### A and the flags after the three operations (R160 to R165) -/

theorem onlyAFlags_setAlu (s : State) (r : Byte × Bool × Bool) : OnlyAFlags s (s.setAlu r) := rfl

theorem zspOf_setAlu (s : State) (r : Byte × Bool × Bool) : ZspOf (s.setAlu r) (s.setAlu r).a :=
  zspOf_setZSP s r.1

theorem State.andA_a_getLsbD (s : State) (v : Byte) (k : Nat) :
    (s.andA v).a.getLsbD k = (s.a.getLsbD k && v.getLsbD k) :=
  BitVec.getLsbD_and

theorem State.orA_a_getLsbD (s : State) (v : Byte) (k : Nat) :
    (s.orA v).a.getLsbD k = (s.a.getLsbD k || v.getLsbD k) :=
  BitVec.getLsbD_or

theorem State.xorA_a_getLsbD (s : State) (v : Byte) (k : Nat) :
    (s.xorA v).a.getLsbD k = (s.a.getLsbD k ^^ v.getLsbD k) :=
  BitVec.getLsbD_xor

/-- R160 under each value of AC_ON_AND: bit 3 of the OR is the OR of the two bits of before. -/
theorem State.andA_acf (s : State) (v : Byte) :
    (s.andA v).acf = match s.params.acOnAnd with
      | .orBit3 => s.a.getLsbD 3 || v.getLsbD 3
      | .one => true
      | .zero => false := by
  show andAuxCarry s.params.acOnAnd s.a v = _
  cases s.params.acOnAnd with
  | orBit3 => exact BitVec.getLsbD_or
  | one | zero => rfl

/-! ### The statement of the logical instructions -/

/-- Settles O39: the six operations are `andA`, `orA` and `xorA`, with the operand read before them; that read changes
neither A nor the parameters. -/
theorem logicalResults : Obligations.LogicalResults := by
  intro s
  have complement {k : Nat} (hk : k < 8) : (~~~s.a).getLsbD k = !s.a.getLsbD k := by
    rw [BitVec.getLsbD_not, decide_eq_true hk, Bool.true_and]
  have andOpd (o : Opd) := (s.readOpd o).2.andA_a_getLsbD (s.readOpd o).1
  have auxOpd (o : Opd) := (s.readOpd o).2.andA_acf (s.readOpd o).1
  have orOpd (o : Opd) := (s.readOpd o).2.orA_a_getLsbD (s.readOpd o).1
  have xorOpd (o : Opd) := (s.readOpd o).2.xorA_a_getLsbD (s.readOpd o).1
  simp only [State.readOpd_a, State.readOpd_params] at andOpd auxOpd orOpd xorOpd
  exact ⟨
    fun o => ⟨_, rfl, onlyAFlags_setAlu _ _, zspOf_setAlu _ _, rfl, andOpd o, auxOpd o⟩,
    fun n => ⟨_, rfl, onlyAFlags_setAlu _ _, zspOf_setAlu _ _, rfl, s.andA_a_getLsbD n, s.andA_acf n⟩,
    fun o => ⟨_, rfl, onlyAFlags_setAlu _ _, zspOf_setAlu _ _, rfl, rfl, orOpd o⟩,
    fun n => ⟨_, rfl, onlyAFlags_setAlu _ _, zspOf_setAlu _ _, rfl, rfl, s.orA_a_getLsbD n⟩,
    fun o => ⟨_, rfl, onlyAFlags_setAlu _ _, zspOf_setAlu _ _, rfl, rfl, xorOpd o⟩,
    fun n => ⟨_, rfl, onlyAFlags_setAlu _ _, zspOf_setAlu _ _, rfl, rfl, s.xorA_a_getLsbD n⟩,
    ⟨_, rfl, rfl, fun _ hk => complement hk⟩,
    fun _ => rfl, fun _ => rfl, fun _ => rfl, fun _ => rfl, fun _ => rfl, fun _ => rfl, rfl⟩

end Sys2Proof.Machine

/-! ## The rotates (R170 to R174) -/

namespace Sys2Proof.Machine

/-! ### The bits of a rotation: the 8-bit rotates are the 9-bit ones with the end bit shifted in (R171 to R174) -/

theorem rotateLeft8_eq (a : Byte) : rotateLeft8 a = rotateLeft9 a (a.getLsbD 7) := rfl

theorem rotateRight8_eq (a : Byte) : rotateRight8 a = rotateRight9 a (a.getLsbD 0) := rfl

/-- R171, R173: A[6:0] stands above the bit shifted in. -/
theorem rotateLeft9_getLsbD (a : Byte) (cy : Bool) (k : Nat) :
    (rotateLeft9 a cy).1.getLsbD k =
      if k < 1 then (BitVec.ofBool cy).getLsbD k else (a.extractLsb' 0 7).getLsbD (k - 1) :=
  BitVec.getLsbD_append (x := a.extractLsb' 0 7) (y := BitVec.ofBool cy)

/-- R172, R174: the bit shifted in stands above A[7:1]. -/
theorem rotateRight9_getLsbD (a : Byte) (cy : Bool) (k : Nat) :
    (rotateRight9 a cy).1.getLsbD k =
      if k < 7 then (a.extractLsb' 1 7).getLsbD k else (BitVec.ofBool cy).getLsbD (k - 7) :=
  BitVec.getLsbD_append (x := BitVec.ofBool cy) (y := a.extractLsb' 1 7)

theorem rotateLeft9_getLsbD_zero (a : Byte) (cy : Bool) : (rotateLeft9 a cy).1.getLsbD 0 = cy := by
  simp [rotateLeft9_getLsbD, -BitVec.getLsbD_eq_getElem]

theorem rotateLeft9_getLsbD_succ (a : Byte) (cy : Bool) {k : Nat} (hk : k < 7) :
    (rotateLeft9 a cy).1.getLsbD (k + 1) = a.getLsbD k := by
  simp [rotateLeft9_getLsbD, hk]

theorem rotateRight9_getLsbD_seven (a : Byte) (cy : Bool) : (rotateRight9 a cy).1.getLsbD 7 = cy := by
  simp [rotateRight9_getLsbD, -BitVec.getLsbD_eq_getElem]

theorem rotateRight9_getLsbD_of_lt (a : Byte) (cy : Bool) {k : Nat} (hk : k < 7) :
    (rotateRight9 a cy).1.getLsbD k = a.getLsbD (k + 1) := by
  simp [rotateRight9_getLsbD, hk, Nat.add_comm]

/-- The rotate right undoes the rotate left, bit by bit. -/
theorem rotateRight9_rotateLeft9 (a : Byte) (cy : Bool) :
    rotateRight9 (rotateLeft9 a cy).1 (rotateLeft9 a cy).2 = (a, cy) := by
  refine Prod.ext (BitVec.eq_of_getLsbD_eq fun k hk => ?_) (rotateLeft9_getLsbD_zero a cy)
  obtain hk | rfl : k < 7 ∨ k = 7 := by omega
  · rw [rotateRight9_getLsbD_of_lt _ _ hk, rotateLeft9_getLsbD_succ a cy hk]
  · exact rotateRight9_getLsbD_seven _ _

theorem rotateRight8_leftInverse :
    Function.LeftInverse (fun a => (rotateRight8 a).1) (fun a => (rotateLeft8 a).1) := fun a => by
  show (rotateRight8 (rotateLeft8 a).1).1 = a
  rw [rotateLeft8_eq, rotateRight8_eq, rotateLeft9_getLsbD_zero]
  exact congrArg Prod.fst (rotateRight9_rotateLeft9 a _)

/-! ### A rotation repeated once per bit -/

/-- A map that moves each of the bits 0 to `n` one place up, and bit `n` to bit 0, is the identity after `n + 1` times:
a bit climbs to the top, turns to the bottom and climbs back to its place. -/
theorem iterate_eq_self_of_bits_cycle {α : Type} {n : Nat} {f : α → α} (bit : α → Nat → Bool)
    (ext : ∀ x y, (∀ k ≤ n, bit x k = bit y k) → x = y)
    (turn : ∀ x, bit (f x) 0 = bit x n) (up : ∀ x, ∀ k < n, bit (f x) (k + 1) = bit x k) (x : α) :
    f^[n + 1] x = x := by
  have climb (m k : Nat) (y : α) (hm : k + m ≤ n) : bit (f^[m] y) (k + m) = bit y k := by
    induction m with
    | zero => rfl
    | succ m ih => rw [f.iterate_succ_apply', ← Nat.add_assoc, up _ _ (by omega), ih (by omega)]
  refine ext _ _ fun k hk => ?_
  calc bit (f^[n + 1] x) k
      = bit (f^[k] (f (f^[n - k] x))) (0 + k) := by
        rw [← f.iterate_succ_apply', ← f.iterate_add_apply, Nat.zero_add, show k + (n - k).succ = n + 1 by omega]
    _ = bit (f^[n - k] x) (k + (n - k)) := by rw [climb _ _ _ (by omega), turn, Nat.add_sub_cancel' hk]
    _ = bit x k := climb _ _ _ (by omega)

theorem rotateLeft8_iterate_eight (a : Byte) : (fun x => (rotateLeft8 x).1)^[8] a = a :=
  iterate_eq_self_of_bits_cycle (n := 7) BitVec.getLsbD
    (fun _ _ h => BitVec.eq_of_getLsbD_eq fun k hk => h k (Nat.le_of_lt_succ hk))
    (fun x => rotateLeft9_getLsbD_zero x _) (fun x _ hk => rotateLeft9_getLsbD_succ x _ hk) a

/-- The nine bits that the rotates through carry turn: those of A, and CY above them (R173, R174). -/
def ringBit (p : Byte × Bool) (k : Nat) : Bool := if k = 8 then p.2 else p.1.getLsbD k

theorem ringBit_eight (p : Byte × Bool) : ringBit p 8 = p.2 := rfl

theorem ringBit_of_lt (p : Byte × Bool) {k : Nat} (hk : k < 8) : ringBit p k = p.1.getLsbD k :=
  if_neg hk.ne

theorem eq_of_ringBit_eq {p q : Byte × Bool} (h : ∀ k ≤ 8, ringBit p k = ringBit q k) : p = q :=
  Prod.ext
    (BitVec.eq_of_getLsbD_eq fun k hk => by rw [← ringBit_of_lt p hk, ← ringBit_of_lt q hk, h k hk.le])
    (h 8 le_rfl)

theorem ringBit_rotateLeft9_succ (p : Byte × Bool) {k : Nat} (hk : k < 8) :
    ringBit (rotateLeft9 p.1 p.2) (k + 1) = ringBit p k := by
  rw [ringBit_of_lt p hk]
  obtain hk | rfl : k < 7 ∨ k = 7 := by omega
  · rw [ringBit_of_lt _ (by omega), rotateLeft9_getLsbD_succ _ _ hk]
  · rfl

theorem rotateLeft9_iterate_nine (p : Byte × Bool) : (fun q => rotateLeft9 q.1 q.2)^[9] p = p :=
  iterate_eq_self_of_bits_cycle ringBit (fun _ _ => eq_of_ringBit_eq)
    (fun q => rotateLeft9_getLsbD_zero q.1 q.2) (fun q _ hk => ringBit_rotateLeft9_succ q hk) p

/-- A left inverse of a map that is the identity after `n` times is so too. -/
theorem iterate_eq_self_of_leftInverse {α : Type} {f g : α → α} (inv : Function.LeftInverse g f) {n : Nat} {x : α}
    (h : f^[n] x = x) : g^[n] x = x := by
  conv_lhs => rw [← h]
  exact inv.iterate n x

theorem rotateRight8_iterate_eight (a : Byte) : (fun x => (rotateRight8 x).1)^[8] a = a :=
  iterate_eq_self_of_leftInverse rotateRight8_leftInverse (rotateLeft8_iterate_eight a)

theorem rotateRight9_iterate_nine (p : Byte × Bool) : (fun q => rotateRight9 q.1 q.2)^[9] p = p :=
  iterate_eq_self_of_leftInverse (fun q => rotateRight9_rotateLeft9 q.1 q.2) (rotateLeft9_iterate_nine p)

/-! ### The four instructions under ROTATE_READING = intel (R170) -/

theorem exec_rlc_of_intel {s : State} (h : s.params.rotateReading = .intel) :
    exec .rlc s = .next (s.setRotated (rotateLeft8 s.a)) := by
  show execRlc s = _
  rw [execRlc, h]

theorem exec_rrc_of_intel {s : State} (h : s.params.rotateReading = .intel) :
    exec .rrc s = .next (s.setRotated (rotateRight8 s.a)) := by
  show execRrc s = _
  rw [execRrc, h]

theorem exec_ral_of_intel {s : State} (h : s.params.rotateReading = .intel) :
    exec .ral s = .next (s.setRotated (rotateLeft9 s.a s.cyf)) := by
  show execRal s = _
  rw [execRal, h]

theorem exec_rar_of_intel {s : State} (h : s.params.rotateReading = .intel) :
    exec .rar s = .next (s.setRotated (rotateRight9 s.a s.cyf)) := by
  show execRar s = _
  rw [execRar, h]

/-- An instruction that rotates A and CY by `rot`, executed `n` times, rotates them by `rot` iterated. -/
theorem execTimes_of_exec_setRotated {i : Instr} {rot : Byte × Bool → Byte × Bool}
    (hexec : ∀ s : State, s.params.rotateReading = .intel → exec i s = .next (s.setRotated (rot (s.a, s.cyf))))
    (n : Nat) (s : State) (h : s.params.rotateReading = .intel) :
    execTimes i n s = .next (s.setRotated (rot^[n] (s.a, s.cyf))) := by
  induction n generalizing s with
  | zero => rfl
  | succ n ih =>
    simp only [execTimes, hexec s h]
    exact ih (s.setRotated _) h

/-- An 8-bit rotation repeated turns A alone: its carry out does not enter the next one. -/
theorem fst_iterate_of_fst {rot : Byte → Byte × Bool} (n : Nat) (p : Byte × Bool) :
    ((fun q => rot q.1)^[n] p).1 = (fun x => (rot x).1)^[n] p.1 :=
  Function.Semiconj.iterate_right (f := Prod.fst) (fun _ => rfl) n p

/-! ### The statements of the rotates -/

/-- Settles O40, from the bits of the two 9-bit rotations. -/
theorem rotateResults : Obligations.RotateResults := fun s h =>
  ⟨⟨_, exec_rlc_of_intel h, rfl, rotateLeft9_getLsbD_zero s.a _, fun _ => rotateLeft9_getLsbD_succ s.a _⟩,
    ⟨_, exec_rrc_of_intel h, rfl, rotateRight9_getLsbD_seven s.a _, fun _ => rotateRight9_getLsbD_of_lt s.a _⟩,
    ⟨_, exec_ral_of_intel h, rfl, rotateLeft9_getLsbD_zero s.a _, fun _ => rotateLeft9_getLsbD_succ s.a _⟩,
    ⟨_, exec_rar_of_intel h, rfl, rotateRight9_getLsbD_seven s.a _, fun _ => rotateRight9_getLsbD_of_lt s.a _⟩,
    rfl, rfl, rfl, rfl⟩

/-- Settles O41: under the literal reading each instruction evaluates to its counterpart's rotation. -/
theorem literalReadingSwapsTheRotates : Obligations.LiteralReadingSwapsTheRotates := by
  rintro s _ h rfl
  exact ⟨_, _, _, _, exec_rlc_of_intel h, exec_rrc_of_intel h, exec_ral_of_intel h, exec_rar_of_intel h,
    rfl, rfl, rfl, rfl⟩

/-- Settles O42: eight turns of the 8-bit ring restore A, nine turns of the 9-bit ring restore A and CY. -/
theorem repeatedRotatesRestore : Obligations.RepeatedRotatesRestore := by
  intro s h
  have rlc := execTimes_of_exec_setRotated (rot := fun q => rotateLeft8 q.1) (fun _ => exec_rlc_of_intel) 8 s h
  have rrc := execTimes_of_exec_setRotated (rot := fun q => rotateRight8 q.1) (fun _ => exec_rrc_of_intel) 8 s h
  have ral := execTimes_of_exec_setRotated (rot := fun q => rotateLeft9 q.1 q.2) (fun _ => exec_ral_of_intel) 9 s h
  have rar := execTimes_of_exec_setRotated (rot := fun q => rotateRight9 q.1 q.2) (fun _ => exec_rar_of_intel) 9 s h
  rw [rotateLeft9_iterate_nine] at ral
  rw [rotateRight9_iterate_nine] at rar
  refine ⟨⟨_, rlc, ?_⟩, ⟨_, rrc, ?_⟩, ral, rar⟩
  · rw [State.setRotated, fst_iterate_of_fst, rotateLeft8_iterate_eight]
  · rw [State.setRotated, fst_iterate_of_fst, rotateRight8_iterate_eight]

end Sys2Proof.Machine

/-! ## The branch instructions (R180 to R211) -/

namespace Sys2Proof.Machine

/-! ### The conditions: a flag and the value it must have (R180) -/

/-- The flag that a condition code reads (R180). -/
def State.condFlag (s : State) : Cond → Bool
  | .nz | .z => s.zf
  | .nc | .c => s.cyf
  | .po | .pe => s.pf
  | .p | .m => s.sf

/-- The value of that flag under which the condition holds. -/
def condValue : Cond → Bool
  | .nz | .nc | .po | .p => false
  | .z | .c | .pe | .m => true

theorem State.cond_iff (s : State) (k : Cond) : s.cond k = true ↔ s.condFlag k = condValue k := by
  cases k with
  | nz | nc | po | p => exact Iff.of_eq (Bool.not_eq_true' _)
  | z | c | pe | m => exact Iff.rfl

/-! ### The conditional branches, taken and not taken -/

theorem State.jumpIf_eq (s : State) (k : Cond) (aa : Word) :
    s.jumpIf k aa = { s with pc := if s.condFlag k = condValue k then aa else s.pc } := by
  simp only [State.jumpIf, s.cond_iff]
  split <;> rfl

theorem calls_callIf {s : State} (hw : s.mem.wf = true) (k : Cond) (aa : Word) :
    if s.condFlag k = condValue k then Calls s (s.callIf k aa) aa else s.callIf k aa = s := by
  simp only [State.callIf, s.cond_iff]
  split
  · exact calls_callTo hw aa
  · rfl

theorem returns_returnIf (s : State) (k : Cond) :
    if s.condFlag k = condValue k then Returns s (s.returnIf k) else s.returnIf k = s := by
  simp only [State.returnIf, s.cond_iff]
  split
  · exact returns_returnFromCall s
  · rfl

/-! ### The entry of a restart, and a return from a call (R63, R211) -/

theorem toNat_restartAddress (n : BitVec 3) : (restartAddress n).toNat = 8 * n.toNat := by
  rw [restartAddress, BitVec.toNat_ofNat]
  omega

theorem State.memWrite_withPc (s : State) (x : Word) (v : Byte) (target : Word) :
    State.memWrite { s with pc := target } x v = { s.memWrite x v with pc := target } := by
  simp only [State.memWrite, State.kindAt]
  split <;> rfl

/-- A call pushes the old PC from a state that is at the target already. -/
theorem State.callTo_eq_push16 (s : State) (target : Word) :
    s.callTo target = State.push16 { s with pc := target } s.pc := by
  simp only [State.callTo, State.push16_eq, State.memWrite_withPc]

/-- With the stack in RAM, a return right after a call gives back everything but memory (R211). -/
theorem State.returnFromCall_callTo {s : State} (hw : s.mem.wf = true) (h1 : s.kindAt (s.sp - 1#16) = .ram)
    (h2 : s.kindAt (s.sp - 2#16) = .ram) (target : Word) :
    (s.callTo target).returnFromCall = { s with mem := (s.callTo target).mem } := by
  have popped := State.pop16_push16 (s := { s with pc := target }) hw s.pc h1 h2
  rw [State.callTo_eq_push16, State.returnFromCall, popped]

/-! ### The statements of the branches -/

/-- Settles O44: CALL is `callTo`, a conditional call is `callIf` with its condition. -/
theorem callResults : Obligations.CallResults := by
  intro s aa hw
  have call := calls_callIf hw (aa := aa)
  exact ⟨⟨_, rfl, calls_callTo hw aa⟩, ⟨_, rfl, call .nz⟩, ⟨_, rfl, call .z⟩, ⟨_, rfl, call .nc⟩, ⟨_, rfl, call .c⟩,
    ⟨_, rfl, call .po⟩, ⟨_, rfl, call .pe⟩, ⟨_, rfl, call .p⟩, ⟨_, rfl, call .m⟩,
    withWord_eq _ aa, withWord_eq _ aa, withWord_eq _ aa, withWord_eq _ aa, withWord_eq _ aa, withWord_eq _ aa,
    withWord_eq _ aa, withWord_eq _ aa, withWord_eq _ aa⟩

/-- Settles O45: RST n is the call of its restart's entry. -/
theorem restartResults : Obligations.RestartResults := fun _ n hw =>
  ⟨_, rfl, calls_callTo hw (restartAddress n), toNat_restartAddress n, rfl⟩

/-- Settles O47: the pop of the return reads back the PC that the call pushed, also where the stack wraps. -/
theorem returnUndoesCall : Obligations.ReturnUndoesCall := by
  intro s aa hw h1 h2
  refine ⟨_, _, rfl, rfl, rfl, ?_⟩
  rw [State.returnFromCall_callTo hw h1 h2]

/-- Settles O43: a conditional jump is `jumpIf` with its condition. -/
theorem jumpResults : Obligations.JumpResults := by
  intro s aa
  have jump (k : Cond) := congrArg (Host.Outcome.next (φ := Fault) (ρ := Refusal)) (s.jumpIf_eq k aa)
  exact ⟨rfl, jump .nz, jump .z, jump .nc, jump .c, jump .po, jump .pe, jump .p, jump .m, rfl,
    withWord_eq _ aa, withWord_eq _ aa, withWord_eq _ aa, withWord_eq _ aa, withWord_eq _ aa, withWord_eq _ aa,
    withWord_eq _ aa, withWord_eq _ aa, withWord_eq _ aa, rfl⟩

/-- Settles O46: RET is `returnFromCall`, a conditional return is `returnIf` with its condition. -/
theorem returnResults : Obligations.ReturnResults := by
  intro s
  have ret := returns_returnIf s
  exact ⟨⟨_, rfl, returns_returnFromCall s⟩, ⟨_, rfl, ret .nz⟩, ⟨_, rfl, ret .z⟩, ⟨_, rfl, ret .nc⟩, ⟨_, rfl, ret .c⟩,
    ⟨_, rfl, ret .po⟩, ⟨_, rfl, ret .pe⟩, ⟨_, rfl, ret .p⟩, ⟨_, rfl, ret .m⟩,
    rfl, rfl, rfl, rfl, rfl, rfl, rfl, rfl, rfl⟩

end Sys2Proof.Machine

/-! ## The stack, and the entry of an interrupt handler (R225 to R231, R276 to R279) -/

namespace Sys2Proof.Machine

/-! ### The pushes (R27, R225, R227, R228) -/

/-- R27: the flag byte as a number, S at bit 7 down to CY at bit 0, with bit 1 always set. -/
theorem State.flagByte_toNat (s : State) : s.flagByte.toNat =
    128 * s.sf.toNat + 64 * s.zf.toNat + 16 * s.acf.toNat + 4 * s.pf.toNat + 2 + s.cyf.toNat := by
  unfold State.flagByte
  cases s.sf <;> cases s.zf <;> cases s.acf <;> cases s.pf <;> cases s.cyf <;> rfl

/-- Settles O48: each push is `push16` of its word, that of PUSH PSW being A and the flag byte. -/
theorem pushResults : Obligations.PushResults := by
  intro s hw
  have pushes (v : Word) : PushesWord s (s.push16 v) v := pushesWord_push16 hw v
  exact ⟨⟨_, rfl, pushes _⟩, ⟨_, rfl, pushes _⟩, ⟨_, rfl, pushes _⟩, ⟨_, s.flagByte, rfl, pushes _, s.flagByte_toNat⟩,
    rfl, rfl, rfl, rfl⟩

/-! ### The pops (R226, R229, R230) -/

/-- R226: the word popped, the byte at SP+1 above the byte at SP, and the state after both reads. -/
theorem State.pop16_eq (s : State) : s.pop16 =
    (joinBytes ((s.memRead s.sp).2.memRead (s.sp + 1#16)).1 (s.memRead s.sp).1,
      { ((s.memRead s.sp).2.memRead (s.sp + 1#16)).2 with sp := s.sp + 2#16 }) := rfl

/-- R229: a pair popped takes the byte at SP+1 as its high byte and the byte at SP as its low byte. -/
theorem exec_pop_of_pop16 {s r : State} {hi lo : Byte} (h : s.pop16 = (joinBytes hi lo, r)) (q : Pair) :
    exec (.pop q) s = .next (r.setPair q (joinBytes hi lo)) := by
  simp [exec, execPop, h]

/-- R230: POP PSW takes the flags from the byte at SP and A from the byte at SP+1. -/
theorem exec_popPsw_of_pop16 {s r : State} {hi lo : Byte} (h : s.pop16 = (joinBytes hi lo, r)) :
    exec .popPsw s = .next { r.setFlags lo with a := hi } := by
  simp [exec, execPopPsw, h]

/-- Settles O49: each pop is `pop16`, then its two bytes are taken apart again. -/
theorem popResults : Obligations.PopResults := by
  intro s r lo hi hlo hhi hr
  have popped : s.pop16 = (joinBytes hi lo, r) := by rw [s.pop16_eq, hlo, hhi, hr]
  have pair (q : Pair) := exec_pop_of_pop16 popped q
  simp only [State.setPair, hiByte_joinBytes, loByte_joinBytes] at pair
  exact ⟨pair .bc, pair .de, pair .hl, exec_popPsw_of_pop16 popped, rfl, rfl, rfl, rfl⟩

/-! ### XTHL (R231) -/

/-- Settles O51: the two reads change neither memory nor SP, H and L; then come the two writes. -/
theorem xthlResults : Obligations.XthlResults := by
  intro s hw
  have hr : ((s.memRead s.sp).2.memRead (s.sp + 1#16)).2.mem.wf = true := by simpa using hw
  exact ⟨_, _, _, rfl, storesByte_memWrite hr _ _, storesByte_memWrite (State.memWrite_wf hr _ _) _ _, rfl,
    by simp, rfl⟩

/-! ### The interrupt that supplies RST n (R276, R277, R279) -/

/-- A call changes no byte of memory but the two at SP-1 and SP-2. -/
theorem State.callTo_peek_ne {s : State} (hw : s.mem.wf = true) (target : Word) {x : Word} (h1 : x ≠ s.sp - 1#16)
    (h2 : x ≠ s.sp - 2#16) : (s.callTo target).peek x = s.peek x :=
  State.push16_read_ne hw s.pc h1 h2

/-- Where SP-1 is RAM, the high byte of PC stands there after a call, whatever SP-2 is. -/
theorem State.callTo_peek_high {s : State} (hw : s.mem.wf = true) (target : Word) (h : s.kindAt (s.sp - 1#16) = .ram) :
    (s.callTo target).peek (s.sp - 1#16) = s.pc.extractLsb' 8 8 :=
  (State.memWrite_read_ne (State.memWrite_wf hw _ _) (push_addresses_ne s.sp) _).trans
    (State.memWrite_read_self hw h (hiByte s.pc))

/-- Where SP-2 is RAM, the low byte of PC stands there after a call, whatever SP-1 is. -/
theorem State.callTo_peek_low {s : State} (hw : s.mem.wf = true) (target : Word) (h : s.kindAt (s.sp - 2#16) = .ram) :
    (s.callTo target).peek (s.sp - 2#16) = s.pc.extractLsb' 0 8 :=
  State.memWrite_read_self (State.memWrite_wf hw _ _) ((State.memWrite_kindAt ..).trans h) (loByte s.pc)

/-- The byte of RST n is recognised as a restart, with number n (R276). -/
theorem isRst_rst (n : BitVec 3) :
    isRst (opcode233 0b11#2 n 0b111#3) = true ∧ rstNumber (opcode233 0b11#2 n 0b111#3) = n := by
  revert n
  decide

/-- An accepted interrupt whose device supplies RST n is taken at restart n (R276, R281). -/
theorem step_of_rst {s : State} {n : BitVec 3} (hr : s.currentInputs.reset = false)
    (ha : s.accepts s.currentInputs = true) (hn : s.currentInputs.intInstr = opcode233 0b11#2 n 0b111#3) :
    step s = .next (s.consumeInputs.takeInterrupt n) := by
  obtain ⟨isRestart, number⟩ := isRst_rst n
  rw [step_of_accepts hr ha, acceptInterrupt, hn, if_pos isRestart, number]

/-- Settles O11: taking the interrupt is a call of restart n from the acknowledged state; the call's push says what
becomes of memory. -/
theorem interruptEntersTheHandler : Obligations.InterruptEntersTheHandler := by
  intro s n hw hr ha hn
  have hw' : s.consumeInputs.acknowledge.mem.wf = true := hw
  have others (x : Word) := State.callTo_peek_ne hw' (restartAddress n) (x := x)
  have high := State.callTo_peek_high hw' (restartAddress n)
  have low := State.callTo_peek_low hw' (restartAddress n)
  refine ⟨_, step_of_rst hr ha hn, calls_callTo hw' (restartAddress n), ?_⟩
  simpa [State.takeInterrupt, toNat_restartAddress, State.peek, State.kindAt] using ⟨others, high, low⟩

end Sys2Proof.Machine

/-! ## The carry instructions (R240, R241) -/

namespace Sys2Proof.Machine

/-- Settles O53: the arms of STC and CMC in `exec` update the one field CY, whatever its value was; each encoding is one
opcode byte. -/
theorem carryInstructions : Obligations.CarryInstructions := fun _ => ⟨rfl, rfl, rfl, rfl⟩

end Sys2Proof.Machine

/-! ## Output and control (R246, R250 to R253) -/

namespace Sys2Proof.Machine

/-- Settles O55: the arm of OUT in `exec` extends the one field `outputs`, whatever the port and A are. -/
theorem outputIsAppended : Obligations.OutputIsAppended := fun _ _ => ⟨rfl, rfl⟩

/-- Settles O56: the arms of NOP, HLT, DI and EI in `exec` update control bits only, whatever their values were; each
encoding is one opcode byte. -/
theorem controlInstructions : Obligations.ControlInstructions := fun _ => ⟨rfl, rfl, rfl, rfl, rfl, rfl, rfl, rfl⟩

end Sys2Proof.Machine

/-! ## RESET, the parameters and the end of a run (R300, R318) -/

namespace Sys2Proof.Machine

/-- Settles O6: RESET is the first branch of the step, whatever else is pending. -/
theorem resetInputWritesFourValues : Obligations.ResetInputWritesFourValues := fun _ h => ⟨_, step_of_reset h, rfl⟩

/-- Settles O19: an interrupt's push of PC and every instruction keep to their traffic, of which no parameter is part;
nothing else of a step touches one. -/
theorem parametersNeverChange : Obligations.ParametersNeverChange := fun s =>
  step_answers (P := fun t => t.params = s.params) rfl (fun n => (takeInterrupt_accesses s.consumeInputs n).params) rfl
    fun i u _ hu t ht => (exec_accesses i u t ht).params.trans hu

theorem stepTimes_succ {s t : State} (h : step s = .next t) (k : Nat) : stepTimes (k + 1) s = stepTimes k t := by
  rw [stepTimes, h]

/-- A coming step is reset only by an input scheduled for it: the pins are quiet beyond the schedule. -/
theorem State.currentInputs_reset {s : State} {k : Nat} (h : ∀ i ∈ s.inputs.take (k + 1), i.reset = false) :
    s.currentInputs.reset = false := by
  unfold State.currentInputs
  split
  next i _ e => exact h i (by simp [e])
  next => rfl

/-- A run that has ended waits, whatever INT does: with INTE = 0 no interrupt is acceptable (R251(c), R275). -/
theorem step_of_ended {s : State} (he : s.ended = true) (hr : s.currentInputs.reset = false) :
    step s = .next s.consumeInputs := by
  simp only [State.ended, Bool.and_eq_true, Bool.not_eq_true'] at he
  obtain ⟨hh, hi⟩ := he
  exact step_of_halted hr (by simp [State.accepts, hi]) hh

/-- Settles O10, by induction on the number of steps: each waits, and leaves the run ended. -/
theorem endedRunStaysAsItIs : Obligations.EndedRunStaysAsItIs := by
  intro k
  induction k with
  | zero => exact fun _ _ _ => rfl
  | succ k ih =>
    intro s he hr
    have later : ∀ i ∈ s.consumeInputs.inputs.take k, i.reset = false := fun i hi => by
      refine hr i (List.mem_of_mem_tail ?_)
      rwa [List.tail_take_eq_take_tail]
    calc stepTimes (k + 1) s
      _ = stepTimes k s.consumeInputs := stepTimes_succ (step_of_ended he (State.currentInputs_reset hr)) k
      _ = .next { s with inputs := s.inputs.tail.drop k } := ih s.consumeInputs he later
      _ = .next { s with inputs := s.inputs.drop (k + 1) } := by rw [List.drop_tail]

end Sys2Proof.Machine

/-! ## The instruction an interrupting device supplies (R275 to R278) -/

namespace Sys2Proof.Machine

/-- Where ei_delay is clear already, as at every boundary that accepts an interrupt, the acknowledge clears INTE and
halted only (R275, R278). -/
theorem State.acknowledge_of_eiDelay {s : State} (h : s.eiDelay = false) :
    s.acknowledge = { s with inte := false, halted := false } := by
  simp [State.acknowledge, h]

theorem State.eiDelay_of_accepts {s : State} {k : StepInputs} (h : s.accepts k = true) : s.eiDelay = false := by
  simp only [State.accepts, Bool.and_eq_true, Bool.not_eq_true'] at h
  obtain ⟨⟨-, hd⟩, -⟩ := h
  exact hd

/-- Settles O12: the byte is no restart, so that the parameter decides. -/
theorem nonRstIsRefusedUnderRstOnly : Obligations.NonRstIsRefusedUnderRstOnly := by
  intro s hr ha hm hb
  have noRst : isRst s.currentInputs.intInstr = false := decide_eq_false hb
  have acknowledged := State.acknowledge_of_eiDelay (s := s.consumeInputs) (State.eiDelay_of_accepts ha)
  rw [step_of_accepts hr ha, acceptInterrupt, noRst, State.consumeInputs_params, hm, acknowledged]
  rfl

/-- A byte recognised as a restart decodes to the restart of its number (R276), whatever bytes come after it. -/
theorem decodeBytes_of_isRst {v : Byte} (h : isRst v = true) (b2 b3 : Byte) :
    decodeBytes v b2 b3 = .rst (rstNumber v) := by
  obtain ⟨n, rfl⟩ : ∃ n, v = opcode233 0b11#2 n 0b111#3 := by
    revert v
    decide
  obtain ⟨-, number⟩ := isRst_rst n
  rw [number]
  exact decodeBytes_opcode233 0b11#2 n 0b111#3 b2 b3

/-- Under `any` a restart needs no case of its own: taking the interrupt is executing RST n after the acknowledge
(R276, R278). -/
theorem acceptInterrupt_of_any (k : StepInputs) {s : State} (hm : s.params.intInjected = .any) :
    acceptInterrupt k s = exec (decodeBytes k.intInstr k.intByte2 k.intByte3) s.acknowledge := by
  cases h : isRst k.intInstr with
  | true =>
    rw [acceptInterrupt, if_pos h, decodeBytes_of_isRst h]
    rfl
  | false =>
    rw [acceptInterrupt, h, hm]
    rfl

/-- Of three bytes the decoder takes as many as byte 1 says; the instruction they decode to does not use the others. -/
theorem decode_three_eq (op b2 b3 : Byte) :
    decode [op, b2, b3] = .ok (decodeBytes op b2 b3, [op, b2, b3].drop (opcodeLength op)) := by
  have h := decodeInvertsEncode (decodeBytes op b2 b3) ([op, b2, b3].drop (opcodeLength op)) (wf_decodeBytes b2 b3 op)
  rwa [encode_of_decodeBytes_eq rfl, List.take_append_drop] at h

/-- Settles O13: under `any` the instruction executed is the one the device's three bytes decode to. -/
theorem injectedInstructionRunsWithPcUnmoved : Obligations.InjectedInstructionRunsWithPcUnmoved := by
  intro s i rest hr ha hm hd
  obtain ⟨rfl, -⟩ := Prod.mk.inj (Except.ok.inj ((decode_three_eq _ _ _).symm.trans hd))
  rw [step_of_accepts hr ha, acceptInterrupt_of_any s.currentInputs (s := s.consumeInputs) hm]
  rfl

end Sys2Proof.Machine
